-- ==== Sys2Proof/Word.lean ====
section
/-! DEFINITION. The two widths of the machine: the byte of memory and the 8-bit registers, and the 16-bit word of PC and
SP (00_scope.md R5). -/

namespace Sys2Proof

/-- An unsigned 8-bit value (20_memory.md R25). -/
abbrev Byte := BitVec 8

/-- An unsigned 16-bit value: PC, SP, a jump target (00_scope.md R5). -/
abbrev Word := BitVec 16

end Sys2Proof
end

