-- ==== Sys2Proof/Config.lean ====
section
/-! DEFINITION. The parameters of the hardware with the value it takes (00_scope.md R5), and the free values of what the
spec leaves unspecified.  A free value is an opaque constant: no proof can learn anything about it. -/

namespace Sys2Proof

/-- MEM_SIZE, the number of bytes of the AddressSpace; addresses run from 0 to 65535 (R5). -/
def Config.memSize : Nat := 65536

/-- RESET_PC (R5). -/
def Config.resetPc : Word := 0xFFFC

/-- RESET_SP (R5). -/
def Config.resetSp : Word := 0x0100

/-- ZPX_WRAP: whether the zero-page-X sum is masked to 8 bits.  This hardware takes false (R5, 41_addressing_alu.md R75;
notes/assumptions/9.md). -/
def Config.zpxWrap : Bool := false

/-- By how many bits BUDGET_BITS exceeds 4, a free value: the spec leaves the width OPEN (R5, 10_state.md R18). -/
opaque Config.budgetExtraBits : Nat

/-- BUDGET_BITS: the width of a hardware budget counter, any width that holds every value down to -5, for which 4 bits are
the fewest (R5).  That it also holds every budget the host supplies is a condition on the host's budgets,
`Sys2Proof.BudgetInv`; the budget itself is an unbounded integer (notes/assumptions/10.md). -/
def Config.budgetBits : Nat := Config.budgetExtraBits + 4

/-! The contents of each register, flag, the budget and memory where the spec says they are unspecified: after a fault
(60_exceptions.md R95) and before the first reset (70_reset_and_hazards.md R114).  The argument is the number of the draw,
`State.draws`, so that two draws are unrelated (notes/assumptions/3.md). -/

opaque Config.freePc : Nat → Word
opaque Config.freeSp : Nat → Word
opaque Config.freeA : Nat → Byte
opaque Config.freeX : Nat → Byte
opaque Config.freeY : Nat → Byte
opaque Config.freeC : Nat → Bool
opaque Config.freeZ : Nat → Bool
opaque Config.freeI : Nat → Bool
opaque Config.freeD : Nat → Bool
opaque Config.freeB : Nat → Bool
opaque Config.freeV : Nat → Bool
opaque Config.freeN : Nat → Bool
opaque Config.freeCb : Nat → Int
/-- The bytes memory holds, as any list of address and byte pairs; every other byte is zero. -/
opaque Config.freeCells : Nat → List (Nat × Byte)
/-- The kind of the fault record before the first reset, by its code 0 to 3. -/
opaque Config.freeFaultKind : Nat → BitVec 2
/-- The address of the fault record before the first reset. -/
opaque Config.freeFaultAddr : Nat → BitVec 17

end Sys2Proof
end

