-- ==== Sys2Proof/Syntax.lean ====
section
/-! DEFINITION. The instructions: one constructor for each of the 256 rows of spec/opcode_table.json, in opcode order
(30_encoding.md R47).  Four opcode values are defined; each of the 252 others is an unknown opcode of its own row. -/

namespace Sys2Proof

/-- One whole instruction with its operand (30_encoding.md R44, R45).  Every register operand is implied. -/
inductive Instr where
  /-- 0x00, an unknown opcode: one byte, no operand (R90). -/
  | unk00
  /-- 0x01, an unknown opcode: one byte, no operand (R90). -/
  | unk01
  /-- 0x02, an unknown opcode: one byte, no operand (R90). -/
  | unk02
  /-- 0x03, an unknown opcode: one byte, no operand (R90). -/
  | unk03
  /-- 0x04, an unknown opcode: one byte, no operand (R90). -/
  | unk04
  /-- 0x05, an unknown opcode: one byte, no operand (R90). -/
  | unk05
  /-- 0x06, an unknown opcode: one byte, no operand (R90). -/
  | unk06
  /-- 0x07, an unknown opcode: one byte, no operand (R90). -/
  | unk07
  /-- 0x08, an unknown opcode: one byte, no operand (R90). -/
  | unk08
  /-- 0x09, an unknown opcode: one byte, no operand (R90). -/
  | unk09
  /-- 0x0A, an unknown opcode: one byte, no operand (R90). -/
  | unk0A
  /-- 0x0B, an unknown opcode: one byte, no operand (R90). -/
  | unk0B
  /-- 0x0C, an unknown opcode: one byte, no operand (R90). -/
  | unk0C
  /-- 0x0D, an unknown opcode: one byte, no operand (R90). -/
  | unk0D
  /-- 0x0E, an unknown opcode: one byte, no operand (R90). -/
  | unk0E
  /-- 0x0F, an unknown opcode: one byte, no operand (R90). -/
  | unk0F
  /-- 0x10, an unknown opcode: one byte, no operand (R90). -/
  | unk10
  /-- 0x11, an unknown opcode: one byte, no operand (R90). -/
  | unk11
  /-- 0x12, an unknown opcode: one byte, no operand (R90). -/
  | unk12
  /-- 0x13, an unknown opcode: one byte, no operand (R90). -/
  | unk13
  /-- 0x14, an unknown opcode: one byte, no operand (R90). -/
  | unk14
  /-- 0x15, an unknown opcode: one byte, no operand (R90). -/
  | unk15
  /-- 0x16, an unknown opcode: one byte, no operand (R90). -/
  | unk16
  /-- 0x17, an unknown opcode: one byte, no operand (R90). -/
  | unk17
  /-- 0x18, an unknown opcode: one byte, no operand (R90). -/
  | unk18
  /-- 0x19, an unknown opcode: one byte, no operand (R90). -/
  | unk19
  /-- 0x1A, an unknown opcode: one byte, no operand (R90). -/
  | unk1A
  /-- 0x1B, an unknown opcode: one byte, no operand (R90). -/
  | unk1B
  /-- 0x1C, an unknown opcode: one byte, no operand (R90). -/
  | unk1C
  /-- 0x1D, an unknown opcode: one byte, no operand (R90). -/
  | unk1D
  /-- 0x1E, an unknown opcode: one byte, no operand (R90). -/
  | unk1E
  /-- 0x1F, an unknown opcode: one byte, no operand (R90). -/
  | unk1F
  /-- 0x20, JSR abs: `target` is the absolute word of the two operand bytes (R87). -/
  | jsr (target : Word)
  /-- 0x21, an unknown opcode: one byte, no operand (R90). -/
  | unk21
  /-- 0x22, an unknown opcode: one byte, no operand (R90). -/
  | unk22
  /-- 0x23, an unknown opcode: one byte, no operand (R90). -/
  | unk23
  /-- 0x24, an unknown opcode: one byte, no operand (R90). -/
  | unk24
  /-- 0x25, an unknown opcode: one byte, no operand (R90). -/
  | unk25
  /-- 0x26, an unknown opcode: one byte, no operand (R90). -/
  | unk26
  /-- 0x27, an unknown opcode: one byte, no operand (R90). -/
  | unk27
  /-- 0x28, an unknown opcode: one byte, no operand (R90). -/
  | unk28
  /-- 0x29, an unknown opcode: one byte, no operand (R90). -/
  | unk29
  /-- 0x2A, an unknown opcode: one byte, no operand (R90). -/
  | unk2A
  /-- 0x2B, an unknown opcode: one byte, no operand (R90). -/
  | unk2B
  /-- 0x2C, an unknown opcode: one byte, no operand (R90). -/
  | unk2C
  /-- 0x2D, an unknown opcode: one byte, no operand (R90). -/
  | unk2D
  /-- 0x2E, an unknown opcode: one byte, no operand (R90). -/
  | unk2E
  /-- 0x2F, an unknown opcode: one byte, no operand (R90). -/
  | unk2F
  /-- 0x30, an unknown opcode: one byte, no operand (R90). -/
  | unk30
  /-- 0x31, an unknown opcode: one byte, no operand (R90). -/
  | unk31
  /-- 0x32, an unknown opcode: one byte, no operand (R90). -/
  | unk32
  /-- 0x33, an unknown opcode: one byte, no operand (R90). -/
  | unk33
  /-- 0x34, an unknown opcode: one byte, no operand (R90). -/
  | unk34
  /-- 0x35, an unknown opcode: one byte, no operand (R90). -/
  | unk35
  /-- 0x36, an unknown opcode: one byte, no operand (R90). -/
  | unk36
  /-- 0x37, an unknown opcode: one byte, no operand (R90). -/
  | unk37
  /-- 0x38, an unknown opcode: one byte, no operand (R90). -/
  | unk38
  /-- 0x39, an unknown opcode: one byte, no operand (R90). -/
  | unk39
  /-- 0x3A, an unknown opcode: one byte, no operand (R90). -/
  | unk3A
  /-- 0x3B, an unknown opcode: one byte, no operand (R90). -/
  | unk3B
  /-- 0x3C, an unknown opcode: one byte, no operand (R90). -/
  | unk3C
  /-- 0x3D, an unknown opcode: one byte, no operand (R90). -/
  | unk3D
  /-- 0x3E, an unknown opcode: one byte, no operand (R90). -/
  | unk3E
  /-- 0x3F, an unknown opcode: one byte, no operand (R90). -/
  | unk3F
  /-- 0x40, an unknown opcode: one byte, no operand (R90). -/
  | unk40
  /-- 0x41, an unknown opcode: one byte, no operand (R90). -/
  | unk41
  /-- 0x42, an unknown opcode: one byte, no operand (R90). -/
  | unk42
  /-- 0x43, an unknown opcode: one byte, no operand (R90). -/
  | unk43
  /-- 0x44, an unknown opcode: one byte, no operand (R90). -/
  | unk44
  /-- 0x45, an unknown opcode: one byte, no operand (R90). -/
  | unk45
  /-- 0x46, an unknown opcode: one byte, no operand (R90). -/
  | unk46
  /-- 0x47, an unknown opcode: one byte, no operand (R90). -/
  | unk47
  /-- 0x48, an unknown opcode: one byte, no operand (R90). -/
  | unk48
  /-- 0x49, an unknown opcode: one byte, no operand (R90). -/
  | unk49
  /-- 0x4A, an unknown opcode: one byte, no operand (R90). -/
  | unk4A
  /-- 0x4B, an unknown opcode: one byte, no operand (R90). -/
  | unk4B
  /-- 0x4C, an unknown opcode: one byte, no operand (R90). -/
  | unk4C
  /-- 0x4D, an unknown opcode: one byte, no operand (R90). -/
  | unk4D
  /-- 0x4E, an unknown opcode: one byte, no operand (R90). -/
  | unk4E
  /-- 0x4F, an unknown opcode: one byte, no operand (R90). -/
  | unk4F
  /-- 0x50, an unknown opcode: one byte, no operand (R90). -/
  | unk50
  /-- 0x51, an unknown opcode: one byte, no operand (R90). -/
  | unk51
  /-- 0x52, an unknown opcode: one byte, no operand (R90). -/
  | unk52
  /-- 0x53, an unknown opcode: one byte, no operand (R90). -/
  | unk53
  /-- 0x54, an unknown opcode: one byte, no operand (R90). -/
  | unk54
  /-- 0x55, an unknown opcode: one byte, no operand (R90). -/
  | unk55
  /-- 0x56, an unknown opcode: one byte, no operand (R90). -/
  | unk56
  /-- 0x57, an unknown opcode: one byte, no operand (R90). -/
  | unk57
  /-- 0x58, an unknown opcode: one byte, no operand (R90). -/
  | unk58
  /-- 0x59, an unknown opcode: one byte, no operand (R90). -/
  | unk59
  /-- 0x5A, an unknown opcode: one byte, no operand (R90). -/
  | unk5A
  /-- 0x5B, an unknown opcode: one byte, no operand (R90). -/
  | unk5B
  /-- 0x5C, an unknown opcode: one byte, no operand (R90). -/
  | unk5C
  /-- 0x5D, an unknown opcode: one byte, no operand (R90). -/
  | unk5D
  /-- 0x5E, an unknown opcode: one byte, no operand (R90). -/
  | unk5E
  /-- 0x5F, an unknown opcode: one byte, no operand (R90). -/
  | unk5F
  /-- 0x60, an unknown opcode: one byte, no operand (R90). -/
  | unk60
  /-- 0x61, an unknown opcode: one byte, no operand (R90). -/
  | unk61
  /-- 0x62, an unknown opcode: one byte, no operand (R90). -/
  | unk62
  /-- 0x63, an unknown opcode: one byte, no operand (R90). -/
  | unk63
  /-- 0x64, an unknown opcode: one byte, no operand (R90). -/
  | unk64
  /-- 0x65, an unknown opcode: one byte, no operand (R90). -/
  | unk65
  /-- 0x66, an unknown opcode: one byte, no operand (R90). -/
  | unk66
  /-- 0x67, an unknown opcode: one byte, no operand (R90). -/
  | unk67
  /-- 0x68, an unknown opcode: one byte, no operand (R90). -/
  | unk68
  /-- 0x69, an unknown opcode: one byte, no operand (R90). -/
  | unk69
  /-- 0x6A, an unknown opcode: one byte, no operand (R90). -/
  | unk6A
  /-- 0x6B, an unknown opcode: one byte, no operand (R90). -/
  | unk6B
  /-- 0x6C, an unknown opcode: one byte, no operand (R90). -/
  | unk6C
  /-- 0x6D, an unknown opcode: one byte, no operand (R90). -/
  | unk6D
  /-- 0x6E, an unknown opcode: one byte, no operand (R90). -/
  | unk6E
  /-- 0x6F, an unknown opcode: one byte, no operand (R90). -/
  | unk6F
  /-- 0x70, an unknown opcode: one byte, no operand (R90). -/
  | unk70
  /-- 0x71, an unknown opcode: one byte, no operand (R90). -/
  | unk71
  /-- 0x72, an unknown opcode: one byte, no operand (R90). -/
  | unk72
  /-- 0x73, an unknown opcode: one byte, no operand (R90). -/
  | unk73
  /-- 0x74, an unknown opcode: one byte, no operand (R90). -/
  | unk74
  /-- 0x75, an unknown opcode: one byte, no operand (R90). -/
  | unk75
  /-- 0x76, an unknown opcode: one byte, no operand (R90). -/
  | unk76
  /-- 0x77, an unknown opcode: one byte, no operand (R90). -/
  | unk77
  /-- 0x78, an unknown opcode: one byte, no operand (R90). -/
  | unk78
  /-- 0x79, an unknown opcode: one byte, no operand (R90). -/
  | unk79
  /-- 0x7A, an unknown opcode: one byte, no operand (R90). -/
  | unk7A
  /-- 0x7B, an unknown opcode: one byte, no operand (R90). -/
  | unk7B
  /-- 0x7C, an unknown opcode: one byte, no operand (R90). -/
  | unk7C
  /-- 0x7D, an unknown opcode: one byte, no operand (R90). -/
  | unk7D
  /-- 0x7E, an unknown opcode: one byte, no operand (R90). -/
  | unk7E
  /-- 0x7F, an unknown opcode: one byte, no operand (R90). -/
  | unk7F
  /-- 0x80, an unknown opcode: one byte, no operand (R90). -/
  | unk80
  /-- 0x81, an unknown opcode: one byte, no operand (R90). -/
  | unk81
  /-- 0x82, an unknown opcode: one byte, no operand (R90). -/
  | unk82
  /-- 0x83, an unknown opcode: one byte, no operand (R90). -/
  | unk83
  /-- 0x84, an unknown opcode: one byte, no operand (R90). -/
  | unk84
  /-- 0x85, an unknown opcode: one byte, no operand (R90). -/
  | unk85
  /-- 0x86, an unknown opcode: one byte, no operand (R90). -/
  | unk86
  /-- 0x87, an unknown opcode: one byte, no operand (R90). -/
  | unk87
  /-- 0x88, an unknown opcode: one byte, no operand (R90). -/
  | unk88
  /-- 0x89, an unknown opcode: one byte, no operand (R90). -/
  | unk89
  /-- 0x8A, an unknown opcode: one byte, no operand (R90). -/
  | unk8A
  /-- 0x8B, an unknown opcode: one byte, no operand (R90). -/
  | unk8B
  /-- 0x8C, an unknown opcode: one byte, no operand (R90). -/
  | unk8C
  /-- 0x8D, an unknown opcode: one byte, no operand (R90). -/
  | unk8D
  /-- 0x8E, an unknown opcode: one byte, no operand (R90). -/
  | unk8E
  /-- 0x8F, an unknown opcode: one byte, no operand (R90). -/
  | unk8F
  /-- 0x90, an unknown opcode: one byte, no operand (R90). -/
  | unk90
  /-- 0x91, an unknown opcode: one byte, no operand (R90). -/
  | unk91
  /-- 0x92, an unknown opcode: one byte, no operand (R90). -/
  | unk92
  /-- 0x93, an unknown opcode: one byte, no operand (R90). -/
  | unk93
  /-- 0x94, an unknown opcode: one byte, no operand (R90). -/
  | unk94
  /-- 0x95, an unknown opcode: one byte, no operand (R90). -/
  | unk95
  /-- 0x96, an unknown opcode: one byte, no operand (R90). -/
  | unk96
  /-- 0x97, an unknown opcode: one byte, no operand (R90). -/
  | unk97
  /-- 0x98, an unknown opcode: one byte, no operand (R90). -/
  | unk98
  /-- 0x99, an unknown opcode: one byte, no operand (R90). -/
  | unk99
  /-- 0x9A, an unknown opcode: one byte, no operand (R90). -/
  | unk9A
  /-- 0x9B, an unknown opcode: one byte, no operand (R90). -/
  | unk9B
  /-- 0x9C, an unknown opcode: one byte, no operand (R90). -/
  | unk9C
  /-- 0x9D, an unknown opcode: one byte, no operand (R90). -/
  | unk9D
  /-- 0x9E, an unknown opcode: one byte, no operand (R90). -/
  | unk9E
  /-- 0x9F, an unknown opcode: one byte, no operand (R90). -/
  | unk9F
  /-- 0xA0, an unknown opcode: one byte, no operand (R90). -/
  | unkA0
  /-- 0xA1, an unknown opcode: one byte, no operand (R90). -/
  | unkA1
  /-- 0xA2, an unknown opcode: one byte, no operand (R90). -/
  | unkA2
  /-- 0xA3, an unknown opcode: one byte, no operand (R90). -/
  | unkA3
  /-- 0xA4, an unknown opcode: one byte, no operand (R90). -/
  | unkA4
  /-- 0xA5, LDA zp: `zp` is the zero-page address byte (R85). -/
  | ldaZp (zp : Byte)
  /-- 0xA6, an unknown opcode: one byte, no operand (R90). -/
  | unkA6
  /-- 0xA7, an unknown opcode: one byte, no operand (R90). -/
  | unkA7
  /-- 0xA8, an unknown opcode: one byte, no operand (R90). -/
  | unkA8
  /-- 0xA9, LDA #imm: `imm8` is the value itself (R84). -/
  | ldaImm (imm8 : Byte)
  /-- 0xAA, an unknown opcode: one byte, no operand (R90). -/
  | unkAA
  /-- 0xAB, an unknown opcode: one byte, no operand (R90). -/
  | unkAB
  /-- 0xAC, an unknown opcode: one byte, no operand (R90). -/
  | unkAC
  /-- 0xAD, an unknown opcode: one byte, no operand (R90). -/
  | unkAD
  /-- 0xAE, an unknown opcode: one byte, no operand (R90). -/
  | unkAE
  /-- 0xAF, an unknown opcode: one byte, no operand (R90). -/
  | unkAF
  /-- 0xB0, an unknown opcode: one byte, no operand (R90). -/
  | unkB0
  /-- 0xB1, an unknown opcode: one byte, no operand (R90). -/
  | unkB1
  /-- 0xB2, an unknown opcode: one byte, no operand (R90). -/
  | unkB2
  /-- 0xB3, an unknown opcode: one byte, no operand (R90). -/
  | unkB3
  /-- 0xB4, an unknown opcode: one byte, no operand (R90). -/
  | unkB4
  /-- 0xB5, LDA zp,X: `zp` is the base the index register is added to (R86). -/
  | ldaZpx (zp : Byte)
  /-- 0xB6, an unknown opcode: one byte, no operand (R90). -/
  | unkB6
  /-- 0xB7, an unknown opcode: one byte, no operand (R90). -/
  | unkB7
  /-- 0xB8, an unknown opcode: one byte, no operand (R90). -/
  | unkB8
  /-- 0xB9, an unknown opcode: one byte, no operand (R90). -/
  | unkB9
  /-- 0xBA, an unknown opcode: one byte, no operand (R90). -/
  | unkBA
  /-- 0xBB, an unknown opcode: one byte, no operand (R90). -/
  | unkBB
  /-- 0xBC, an unknown opcode: one byte, no operand (R90). -/
  | unkBC
  /-- 0xBD, an unknown opcode: one byte, no operand (R90). -/
  | unkBD
  /-- 0xBE, an unknown opcode: one byte, no operand (R90). -/
  | unkBE
  /-- 0xBF, an unknown opcode: one byte, no operand (R90). -/
  | unkBF
  /-- 0xC0, an unknown opcode: one byte, no operand (R90). -/
  | unkC0
  /-- 0xC1, an unknown opcode: one byte, no operand (R90). -/
  | unkC1
  /-- 0xC2, an unknown opcode: one byte, no operand (R90). -/
  | unkC2
  /-- 0xC3, an unknown opcode: one byte, no operand (R90). -/
  | unkC3
  /-- 0xC4, an unknown opcode: one byte, no operand (R90). -/
  | unkC4
  /-- 0xC5, an unknown opcode: one byte, no operand (R90). -/
  | unkC5
  /-- 0xC6, an unknown opcode: one byte, no operand (R90). -/
  | unkC6
  /-- 0xC7, an unknown opcode: one byte, no operand (R90). -/
  | unkC7
  /-- 0xC8, an unknown opcode: one byte, no operand (R90). -/
  | unkC8
  /-- 0xC9, an unknown opcode: one byte, no operand (R90). -/
  | unkC9
  /-- 0xCA, an unknown opcode: one byte, no operand (R90). -/
  | unkCA
  /-- 0xCB, an unknown opcode: one byte, no operand (R90). -/
  | unkCB
  /-- 0xCC, an unknown opcode: one byte, no operand (R90). -/
  | unkCC
  /-- 0xCD, an unknown opcode: one byte, no operand (R90). -/
  | unkCD
  /-- 0xCE, an unknown opcode: one byte, no operand (R90). -/
  | unkCE
  /-- 0xCF, an unknown opcode: one byte, no operand (R90). -/
  | unkCF
  /-- 0xD0, an unknown opcode: one byte, no operand (R90). -/
  | unkD0
  /-- 0xD1, an unknown opcode: one byte, no operand (R90). -/
  | unkD1
  /-- 0xD2, an unknown opcode: one byte, no operand (R90). -/
  | unkD2
  /-- 0xD3, an unknown opcode: one byte, no operand (R90). -/
  | unkD3
  /-- 0xD4, an unknown opcode: one byte, no operand (R90). -/
  | unkD4
  /-- 0xD5, an unknown opcode: one byte, no operand (R90). -/
  | unkD5
  /-- 0xD6, an unknown opcode: one byte, no operand (R90). -/
  | unkD6
  /-- 0xD7, an unknown opcode: one byte, no operand (R90). -/
  | unkD7
  /-- 0xD8, an unknown opcode: one byte, no operand (R90). -/
  | unkD8
  /-- 0xD9, an unknown opcode: one byte, no operand (R90). -/
  | unkD9
  /-- 0xDA, an unknown opcode: one byte, no operand (R90). -/
  | unkDA
  /-- 0xDB, an unknown opcode: one byte, no operand (R90). -/
  | unkDB
  /-- 0xDC, an unknown opcode: one byte, no operand (R90). -/
  | unkDC
  /-- 0xDD, an unknown opcode: one byte, no operand (R90). -/
  | unkDD
  /-- 0xDE, an unknown opcode: one byte, no operand (R90). -/
  | unkDE
  /-- 0xDF, an unknown opcode: one byte, no operand (R90). -/
  | unkDF
  /-- 0xE0, an unknown opcode: one byte, no operand (R90). -/
  | unkE0
  /-- 0xE1, an unknown opcode: one byte, no operand (R90). -/
  | unkE1
  /-- 0xE2, an unknown opcode: one byte, no operand (R90). -/
  | unkE2
  /-- 0xE3, an unknown opcode: one byte, no operand (R90). -/
  | unkE3
  /-- 0xE4, an unknown opcode: one byte, no operand (R90). -/
  | unkE4
  /-- 0xE5, an unknown opcode: one byte, no operand (R90). -/
  | unkE5
  /-- 0xE6, an unknown opcode: one byte, no operand (R90). -/
  | unkE6
  /-- 0xE7, an unknown opcode: one byte, no operand (R90). -/
  | unkE7
  /-- 0xE8, an unknown opcode: one byte, no operand (R90). -/
  | unkE8
  /-- 0xE9, an unknown opcode: one byte, no operand (R90). -/
  | unkE9
  /-- 0xEA, an unknown opcode: one byte, no operand (R90). -/
  | unkEA
  /-- 0xEB, an unknown opcode: one byte, no operand (R90). -/
  | unkEB
  /-- 0xEC, an unknown opcode: one byte, no operand (R90). -/
  | unkEC
  /-- 0xED, an unknown opcode: one byte, no operand (R90). -/
  | unkED
  /-- 0xEE, an unknown opcode: one byte, no operand (R90). -/
  | unkEE
  /-- 0xEF, an unknown opcode: one byte, no operand (R90). -/
  | unkEF
  /-- 0xF0, an unknown opcode: one byte, no operand (R90). -/
  | unkF0
  /-- 0xF1, an unknown opcode: one byte, no operand (R90). -/
  | unkF1
  /-- 0xF2, an unknown opcode: one byte, no operand (R90). -/
  | unkF2
  /-- 0xF3, an unknown opcode: one byte, no operand (R90). -/
  | unkF3
  /-- 0xF4, an unknown opcode: one byte, no operand (R90). -/
  | unkF4
  /-- 0xF5, an unknown opcode: one byte, no operand (R90). -/
  | unkF5
  /-- 0xF6, an unknown opcode: one byte, no operand (R90). -/
  | unkF6
  /-- 0xF7, an unknown opcode: one byte, no operand (R90). -/
  | unkF7
  /-- 0xF8, an unknown opcode: one byte, no operand (R90). -/
  | unkF8
  /-- 0xF9, an unknown opcode: one byte, no operand (R90). -/
  | unkF9
  /-- 0xFA, an unknown opcode: one byte, no operand (R90). -/
  | unkFA
  /-- 0xFB, an unknown opcode: one byte, no operand (R90). -/
  | unkFB
  /-- 0xFC, an unknown opcode: one byte, no operand (R90). -/
  | unkFC
  /-- 0xFD, an unknown opcode: one byte, no operand (R90). -/
  | unkFD
  /-- 0xFE, an unknown opcode: one byte, no operand (R90). -/
  | unkFE
  /-- 0xFF, an unknown opcode: one byte, no operand (R90). -/
  | unkFF
  deriving DecidableEq, Repr

/-- The instruction is one of the 252 unknown opcodes: every one but the four defined (44_unknown_opcode.md R90). -/
def Instr.isUnknown : Instr → Bool
  | .ldaImm _ | .ldaZp _ | .ldaZpx _ | .jsr _ => false
  | _ => true

end Sys2Proof
end

