-- ==== Sys2Proof/WellFormed.lean ====
section
/-! DEFINITION. Which terms are well formed.  An instruction as syntax always is: its operands have their widths in their
types, and no operand value is invalid (30_encoding.md R49).  A byte string is well formed when it is one whole
instruction: an opcode, and as many operand bytes as that opcode alone decides (R43, R46). -/

namespace Sys2Proof

/-- Length(op) of 30_encoding.md R46: the number of bytes of an instruction, decided by its opcode alone. -/
def lengthOf (op : Byte) : Nat :=
  if op = 0xA9#8 ∨ op = 0xA5#8 ∨ op = 0xB5#8 then 2
  else if op = 0x20#8 then 3
  else 1

/-- The byte string is exactly one instruction. -/
def wellFormedBytes : List Byte → Bool
  | [] => false
  | op :: operands => operands.length + 1 == lengthOf op

/-- Every instruction is well formed: "every imm8, zp and target value is legal" (R49). -/
def Instr.wellFormed (_ : Instr) : Bool := true

end Sys2Proof
end

