-- ==== Sys2Proof/Decode.lean ====
section
/-! DEFINITION. The decoder, from the bytes at the program counter to an instruction, and the encoder
(30_encoding.md R43 to R50).  The decoder compares the whole opcode byte with the opcode map and nothing else (R48).  It is
total: each of the 256 opcode values selects one handler (40_fetch_dispatch_loop.md R57), so the only byte strings it
rejects are those that end before the instruction does. -/

namespace Sys2Proof

/-! ### Byte order of a 16-bit operand -/

/-- Bits 7:0 of a word. -/
def loByte (w : Word) : Byte := w.setWidth 8

/-- Bits 15:8 of a word. -/
def hiByte (w : Word) : Byte := (w >>> 8).setWidth 8

/-- `{hi, lo} = hi * 256 + lo`, the 16-bit value whose bits 7:0 are `lo` (00_scope.md R7, 20_memory.md R29). -/
def wordOf (hi lo : Byte) : Word := BitVec.ofNat 16 (hi.toNat * 256 + lo.toNat)

/-! ### The opcode map -/

/-- The handler an opcode value selects: the four defined ones, or the unknown opcode of that row
(40_fetch_dispatch_loop.md R57). -/
inductive Handler where
  | ldaImm
  | ldaZp
  | ldaZpx
  | jsr
  | unk (i : Instr)
  deriving DecidableEq, Repr

/-- Opcode values 0x00 to 0x0F. -/
def opcodeRow0 : List Handler :=
  [.unk .unk00, .unk .unk01, .unk .unk02, .unk .unk03,
   .unk .unk04, .unk .unk05, .unk .unk06, .unk .unk07,
   .unk .unk08, .unk .unk09, .unk .unk0A, .unk .unk0B,
   .unk .unk0C, .unk .unk0D, .unk .unk0E, .unk .unk0F]

/-- Opcode values 0x10 to 0x1F. -/
def opcodeRow1 : List Handler :=
  [.unk .unk10, .unk .unk11, .unk .unk12, .unk .unk13,
   .unk .unk14, .unk .unk15, .unk .unk16, .unk .unk17,
   .unk .unk18, .unk .unk19, .unk .unk1A, .unk .unk1B,
   .unk .unk1C, .unk .unk1D, .unk .unk1E, .unk .unk1F]

/-- Opcode values 0x20 to 0x2F. -/
def opcodeRow2 : List Handler :=
  [.jsr, .unk .unk21, .unk .unk22, .unk .unk23,
   .unk .unk24, .unk .unk25, .unk .unk26, .unk .unk27,
   .unk .unk28, .unk .unk29, .unk .unk2A, .unk .unk2B,
   .unk .unk2C, .unk .unk2D, .unk .unk2E, .unk .unk2F]

/-- Opcode values 0x30 to 0x3F. -/
def opcodeRow3 : List Handler :=
  [.unk .unk30, .unk .unk31, .unk .unk32, .unk .unk33,
   .unk .unk34, .unk .unk35, .unk .unk36, .unk .unk37,
   .unk .unk38, .unk .unk39, .unk .unk3A, .unk .unk3B,
   .unk .unk3C, .unk .unk3D, .unk .unk3E, .unk .unk3F]

/-- Opcode values 0x40 to 0x4F. -/
def opcodeRow4 : List Handler :=
  [.unk .unk40, .unk .unk41, .unk .unk42, .unk .unk43,
   .unk .unk44, .unk .unk45, .unk .unk46, .unk .unk47,
   .unk .unk48, .unk .unk49, .unk .unk4A, .unk .unk4B,
   .unk .unk4C, .unk .unk4D, .unk .unk4E, .unk .unk4F]

/-- Opcode values 0x50 to 0x5F. -/
def opcodeRow5 : List Handler :=
  [.unk .unk50, .unk .unk51, .unk .unk52, .unk .unk53,
   .unk .unk54, .unk .unk55, .unk .unk56, .unk .unk57,
   .unk .unk58, .unk .unk59, .unk .unk5A, .unk .unk5B,
   .unk .unk5C, .unk .unk5D, .unk .unk5E, .unk .unk5F]

/-- Opcode values 0x60 to 0x6F. -/
def opcodeRow6 : List Handler :=
  [.unk .unk60, .unk .unk61, .unk .unk62, .unk .unk63,
   .unk .unk64, .unk .unk65, .unk .unk66, .unk .unk67,
   .unk .unk68, .unk .unk69, .unk .unk6A, .unk .unk6B,
   .unk .unk6C, .unk .unk6D, .unk .unk6E, .unk .unk6F]

/-- Opcode values 0x70 to 0x7F. -/
def opcodeRow7 : List Handler :=
  [.unk .unk70, .unk .unk71, .unk .unk72, .unk .unk73,
   .unk .unk74, .unk .unk75, .unk .unk76, .unk .unk77,
   .unk .unk78, .unk .unk79, .unk .unk7A, .unk .unk7B,
   .unk .unk7C, .unk .unk7D, .unk .unk7E, .unk .unk7F]

/-- Opcode values 0x80 to 0x8F. -/
def opcodeRow8 : List Handler :=
  [.unk .unk80, .unk .unk81, .unk .unk82, .unk .unk83,
   .unk .unk84, .unk .unk85, .unk .unk86, .unk .unk87,
   .unk .unk88, .unk .unk89, .unk .unk8A, .unk .unk8B,
   .unk .unk8C, .unk .unk8D, .unk .unk8E, .unk .unk8F]

/-- Opcode values 0x90 to 0x9F. -/
def opcodeRow9 : List Handler :=
  [.unk .unk90, .unk .unk91, .unk .unk92, .unk .unk93,
   .unk .unk94, .unk .unk95, .unk .unk96, .unk .unk97,
   .unk .unk98, .unk .unk99, .unk .unk9A, .unk .unk9B,
   .unk .unk9C, .unk .unk9D, .unk .unk9E, .unk .unk9F]

/-- Opcode values 0xA0 to 0xAF. -/
def opcodeRowA : List Handler :=
  [.unk .unkA0, .unk .unkA1, .unk .unkA2, .unk .unkA3,
   .unk .unkA4, .ldaZp, .unk .unkA6, .unk .unkA7,
   .unk .unkA8, .ldaImm, .unk .unkAA, .unk .unkAB,
   .unk .unkAC, .unk .unkAD, .unk .unkAE, .unk .unkAF]

/-- Opcode values 0xB0 to 0xBF. -/
def opcodeRowB : List Handler :=
  [.unk .unkB0, .unk .unkB1, .unk .unkB2, .unk .unkB3,
   .unk .unkB4, .ldaZpx, .unk .unkB6, .unk .unkB7,
   .unk .unkB8, .unk .unkB9, .unk .unkBA, .unk .unkBB,
   .unk .unkBC, .unk .unkBD, .unk .unkBE, .unk .unkBF]

/-- Opcode values 0xC0 to 0xCF. -/
def opcodeRowC : List Handler :=
  [.unk .unkC0, .unk .unkC1, .unk .unkC2, .unk .unkC3,
   .unk .unkC4, .unk .unkC5, .unk .unkC6, .unk .unkC7,
   .unk .unkC8, .unk .unkC9, .unk .unkCA, .unk .unkCB,
   .unk .unkCC, .unk .unkCD, .unk .unkCE, .unk .unkCF]

/-- Opcode values 0xD0 to 0xDF. -/
def opcodeRowD : List Handler :=
  [.unk .unkD0, .unk .unkD1, .unk .unkD2, .unk .unkD3,
   .unk .unkD4, .unk .unkD5, .unk .unkD6, .unk .unkD7,
   .unk .unkD8, .unk .unkD9, .unk .unkDA, .unk .unkDB,
   .unk .unkDC, .unk .unkDD, .unk .unkDE, .unk .unkDF]

/-- Opcode values 0xE0 to 0xEF. -/
def opcodeRowE : List Handler :=
  [.unk .unkE0, .unk .unkE1, .unk .unkE2, .unk .unkE3,
   .unk .unkE4, .unk .unkE5, .unk .unkE6, .unk .unkE7,
   .unk .unkE8, .unk .unkE9, .unk .unkEA, .unk .unkEB,
   .unk .unkEC, .unk .unkED, .unk .unkEE, .unk .unkEF]

/-- Opcode values 0xF0 to 0xFF. -/
def opcodeRowF : List Handler :=
  [.unk .unkF0, .unk .unkF1, .unk .unkF2, .unk .unkF3,
   .unk .unkF4, .unk .unkF5, .unk .unkF6, .unk .unkF7,
   .unk .unkF8, .unk .unkF9, .unk .unkFA, .unk .unkFB,
   .unk .unkFC, .unk .unkFD, .unk .unkFE, .unk .unkFF]

/-- The complete map of the 256 opcode values, entry number `op` for opcode value `op`, written row by row of the high
nibble as 30_encoding.md R47 lists it. -/
def opcodeMap : List Handler :=
  opcodeRow0 ++ opcodeRow1 ++ opcodeRow2 ++ opcodeRow3 ++ opcodeRow4 ++ opcodeRow5 ++ opcodeRow6 ++ opcodeRow7 ++
  opcodeRow8 ++ opcodeRow9 ++ opcodeRowA ++ opcodeRowB ++ opcodeRowC ++ opcodeRowD ++ opcodeRowE ++ opcodeRowF

theorem opcodeMap_length : opcodeMap.length = 256 := by
  simp only [opcodeMap, List.length_append]; rfl

/-- The handler of an opcode byte; no opcode value is without one (R47, R49). -/
def handlerOf (op : Byte) : Handler :=
  opcodeMap[op.toNat]'(by rw [opcodeMap_length]; exact op.isLt)

/-! ### The decoder -/

/-- What the decoder answers: an instruction and the bytes after it, or a rejection by name. -/
inductive Decoded where
  /-- a whole instruction, and the bytes that follow it -/
  | ok (i : Instr) (rest : List Byte)
  /-- there is no opcode byte -/
  | noBytes
  /-- the bytes end before the operand of this opcode does -/
  | truncated (op : Byte)
  deriving DecidableEq, Repr

/-- Formats IMM8, ZP8 and ZPX8: one operand byte follows the opcode (R44). -/
def decodeByteOperand (mk : Byte → Instr) (op : Byte) : List Byte → Decoded
  | v :: rest => .ok (mk v) rest
  | [] => .truncated op

/-- Format ABS16: the low byte, then the high byte of a word follow the opcode (R44, R45). -/
def decodeWordOperand (mk : Word → Instr) (op : Byte) : List Byte → Decoded
  | lo :: hi :: rest => .ok (mk (wordOf hi lo)) rest
  | _ => .truncated op

/-- Read one instruction from the front of a byte string. -/
def decode : List Byte → Decoded
  | [] => .noBytes
  | op :: rest =>
    match handlerOf op with
    | .ldaImm => decodeByteOperand .ldaImm op rest
    | .ldaZp => decodeByteOperand .ldaZp op rest
    | .ldaZpx => decodeByteOperand .ldaZpx op rest
    | .jsr => decodeWordOperand .jsr op rest
    | .unk i => .ok i rest

/-! ### The encoder -/

/-- The opcode byte of an instruction (R47; spec/opcode_table.json). -/
def Instr.opcode : Instr → Byte
  | .unk00 => 0x00#8
  | .unk01 => 0x01#8
  | .unk02 => 0x02#8
  | .unk03 => 0x03#8
  | .unk04 => 0x04#8
  | .unk05 => 0x05#8
  | .unk06 => 0x06#8
  | .unk07 => 0x07#8
  | .unk08 => 0x08#8
  | .unk09 => 0x09#8
  | .unk0A => 0x0A#8
  | .unk0B => 0x0B#8
  | .unk0C => 0x0C#8
  | .unk0D => 0x0D#8
  | .unk0E => 0x0E#8
  | .unk0F => 0x0F#8
  | .unk10 => 0x10#8
  | .unk11 => 0x11#8
  | .unk12 => 0x12#8
  | .unk13 => 0x13#8
  | .unk14 => 0x14#8
  | .unk15 => 0x15#8
  | .unk16 => 0x16#8
  | .unk17 => 0x17#8
  | .unk18 => 0x18#8
  | .unk19 => 0x19#8
  | .unk1A => 0x1A#8
  | .unk1B => 0x1B#8
  | .unk1C => 0x1C#8
  | .unk1D => 0x1D#8
  | .unk1E => 0x1E#8
  | .unk1F => 0x1F#8
  | .jsr _ => 0x20#8
  | .unk21 => 0x21#8
  | .unk22 => 0x22#8
  | .unk23 => 0x23#8
  | .unk24 => 0x24#8
  | .unk25 => 0x25#8
  | .unk26 => 0x26#8
  | .unk27 => 0x27#8
  | .unk28 => 0x28#8
  | .unk29 => 0x29#8
  | .unk2A => 0x2A#8
  | .unk2B => 0x2B#8
  | .unk2C => 0x2C#8
  | .unk2D => 0x2D#8
  | .unk2E => 0x2E#8
  | .unk2F => 0x2F#8
  | .unk30 => 0x30#8
  | .unk31 => 0x31#8
  | .unk32 => 0x32#8
  | .unk33 => 0x33#8
  | .unk34 => 0x34#8
  | .unk35 => 0x35#8
  | .unk36 => 0x36#8
  | .unk37 => 0x37#8
  | .unk38 => 0x38#8
  | .unk39 => 0x39#8
  | .unk3A => 0x3A#8
  | .unk3B => 0x3B#8
  | .unk3C => 0x3C#8
  | .unk3D => 0x3D#8
  | .unk3E => 0x3E#8
  | .unk3F => 0x3F#8
  | .unk40 => 0x40#8
  | .unk41 => 0x41#8
  | .unk42 => 0x42#8
  | .unk43 => 0x43#8
  | .unk44 => 0x44#8
  | .unk45 => 0x45#8
  | .unk46 => 0x46#8
  | .unk47 => 0x47#8
  | .unk48 => 0x48#8
  | .unk49 => 0x49#8
  | .unk4A => 0x4A#8
  | .unk4B => 0x4B#8
  | .unk4C => 0x4C#8
  | .unk4D => 0x4D#8
  | .unk4E => 0x4E#8
  | .unk4F => 0x4F#8
  | .unk50 => 0x50#8
  | .unk51 => 0x51#8
  | .unk52 => 0x52#8
  | .unk53 => 0x53#8
  | .unk54 => 0x54#8
  | .unk55 => 0x55#8
  | .unk56 => 0x56#8
  | .unk57 => 0x57#8
  | .unk58 => 0x58#8
  | .unk59 => 0x59#8
  | .unk5A => 0x5A#8
  | .unk5B => 0x5B#8
  | .unk5C => 0x5C#8
  | .unk5D => 0x5D#8
  | .unk5E => 0x5E#8
  | .unk5F => 0x5F#8
  | .unk60 => 0x60#8
  | .unk61 => 0x61#8
  | .unk62 => 0x62#8
  | .unk63 => 0x63#8
  | .unk64 => 0x64#8
  | .unk65 => 0x65#8
  | .unk66 => 0x66#8
  | .unk67 => 0x67#8
  | .unk68 => 0x68#8
  | .unk69 => 0x69#8
  | .unk6A => 0x6A#8
  | .unk6B => 0x6B#8
  | .unk6C => 0x6C#8
  | .unk6D => 0x6D#8
  | .unk6E => 0x6E#8
  | .unk6F => 0x6F#8
  | .unk70 => 0x70#8
  | .unk71 => 0x71#8
  | .unk72 => 0x72#8
  | .unk73 => 0x73#8
  | .unk74 => 0x74#8
  | .unk75 => 0x75#8
  | .unk76 => 0x76#8
  | .unk77 => 0x77#8
  | .unk78 => 0x78#8
  | .unk79 => 0x79#8
  | .unk7A => 0x7A#8
  | .unk7B => 0x7B#8
  | .unk7C => 0x7C#8
  | .unk7D => 0x7D#8
  | .unk7E => 0x7E#8
  | .unk7F => 0x7F#8
  | .unk80 => 0x80#8
  | .unk81 => 0x81#8
  | .unk82 => 0x82#8
  | .unk83 => 0x83#8
  | .unk84 => 0x84#8
  | .unk85 => 0x85#8
  | .unk86 => 0x86#8
  | .unk87 => 0x87#8
  | .unk88 => 0x88#8
  | .unk89 => 0x89#8
  | .unk8A => 0x8A#8
  | .unk8B => 0x8B#8
  | .unk8C => 0x8C#8
  | .unk8D => 0x8D#8
  | .unk8E => 0x8E#8
  | .unk8F => 0x8F#8
  | .unk90 => 0x90#8
  | .unk91 => 0x91#8
  | .unk92 => 0x92#8
  | .unk93 => 0x93#8
  | .unk94 => 0x94#8
  | .unk95 => 0x95#8
  | .unk96 => 0x96#8
  | .unk97 => 0x97#8
  | .unk98 => 0x98#8
  | .unk99 => 0x99#8
  | .unk9A => 0x9A#8
  | .unk9B => 0x9B#8
  | .unk9C => 0x9C#8
  | .unk9D => 0x9D#8
  | .unk9E => 0x9E#8
  | .unk9F => 0x9F#8
  | .unkA0 => 0xA0#8
  | .unkA1 => 0xA1#8
  | .unkA2 => 0xA2#8
  | .unkA3 => 0xA3#8
  | .unkA4 => 0xA4#8
  | .ldaZp _ => 0xA5#8
  | .unkA6 => 0xA6#8
  | .unkA7 => 0xA7#8
  | .unkA8 => 0xA8#8
  | .ldaImm _ => 0xA9#8
  | .unkAA => 0xAA#8
  | .unkAB => 0xAB#8
  | .unkAC => 0xAC#8
  | .unkAD => 0xAD#8
  | .unkAE => 0xAE#8
  | .unkAF => 0xAF#8
  | .unkB0 => 0xB0#8
  | .unkB1 => 0xB1#8
  | .unkB2 => 0xB2#8
  | .unkB3 => 0xB3#8
  | .unkB4 => 0xB4#8
  | .ldaZpx _ => 0xB5#8
  | .unkB6 => 0xB6#8
  | .unkB7 => 0xB7#8
  | .unkB8 => 0xB8#8
  | .unkB9 => 0xB9#8
  | .unkBA => 0xBA#8
  | .unkBB => 0xBB#8
  | .unkBC => 0xBC#8
  | .unkBD => 0xBD#8
  | .unkBE => 0xBE#8
  | .unkBF => 0xBF#8
  | .unkC0 => 0xC0#8
  | .unkC1 => 0xC1#8
  | .unkC2 => 0xC2#8
  | .unkC3 => 0xC3#8
  | .unkC4 => 0xC4#8
  | .unkC5 => 0xC5#8
  | .unkC6 => 0xC6#8
  | .unkC7 => 0xC7#8
  | .unkC8 => 0xC8#8
  | .unkC9 => 0xC9#8
  | .unkCA => 0xCA#8
  | .unkCB => 0xCB#8
  | .unkCC => 0xCC#8
  | .unkCD => 0xCD#8
  | .unkCE => 0xCE#8
  | .unkCF => 0xCF#8
  | .unkD0 => 0xD0#8
  | .unkD1 => 0xD1#8
  | .unkD2 => 0xD2#8
  | .unkD3 => 0xD3#8
  | .unkD4 => 0xD4#8
  | .unkD5 => 0xD5#8
  | .unkD6 => 0xD6#8
  | .unkD7 => 0xD7#8
  | .unkD8 => 0xD8#8
  | .unkD9 => 0xD9#8
  | .unkDA => 0xDA#8
  | .unkDB => 0xDB#8
  | .unkDC => 0xDC#8
  | .unkDD => 0xDD#8
  | .unkDE => 0xDE#8
  | .unkDF => 0xDF#8
  | .unkE0 => 0xE0#8
  | .unkE1 => 0xE1#8
  | .unkE2 => 0xE2#8
  | .unkE3 => 0xE3#8
  | .unkE4 => 0xE4#8
  | .unkE5 => 0xE5#8
  | .unkE6 => 0xE6#8
  | .unkE7 => 0xE7#8
  | .unkE8 => 0xE8#8
  | .unkE9 => 0xE9#8
  | .unkEA => 0xEA#8
  | .unkEB => 0xEB#8
  | .unkEC => 0xEC#8
  | .unkED => 0xED#8
  | .unkEE => 0xEE#8
  | .unkEF => 0xEF#8
  | .unkF0 => 0xF0#8
  | .unkF1 => 0xF1#8
  | .unkF2 => 0xF2#8
  | .unkF3 => 0xF3#8
  | .unkF4 => 0xF4#8
  | .unkF5 => 0xF5#8
  | .unkF6 => 0xF6#8
  | .unkF7 => 0xF7#8
  | .unkF8 => 0xF8#8
  | .unkF9 => 0xF9#8
  | .unkFA => 0xFA#8
  | .unkFB => 0xFB#8
  | .unkFC => 0xFC#8
  | .unkFD => 0xFD#8
  | .unkFE => 0xFE#8
  | .unkFF => 0xFF#8

/-- The operand bytes, in the order they lie in memory; an unknown opcode has none (R44, R45). -/
def Instr.operands : Instr → List Byte
  | .ldaImm imm8 => [imm8]
  | .ldaZp zp => [zp]
  | .ldaZpx zp => [zp]
  | .jsr target => [loByte target, hiByte target]
  | _ => []

/-- The bytes of an instruction, the opcode at the lowest address (R43). -/
def encode (i : Instr) : List Byte := i.opcode :: i.operands

/-! ### A row of the opcode table as a number -/

/-- The three bytes (the longest instruction, R43) of a number whose bit 0 is the least significant bit of the first
byte; the bits from `nbits` up are zero. -/
def tableBytes (nbits w : Nat) : List Byte :=
  let v := w % 2 ^ nbits
  [BitVec.ofNat 8 v, BitVec.ofNat 8 (v / 256), BitVec.ofNat 8 (v / 65536)]

/-- The instruction `decode` reads from the bytes of a table word. -/
def decodeTableWord (nbits w : Nat) : Option Instr :=
  match decode (tableBytes nbits w) with
  | .ok i _ => some i
  | .noBytes => none
  | .truncated _ => none

end Sys2Proof
end

