-- ==== Sys2Proof/Machine/State.lean ====
section
/-! DEFINITION. The state of the machine as 10_state.md R10 lists it, plain data, and the state after reset
(70_reset_and_hazards.md R108, R111).  Three fields at its end are the model's own: the host's pending operations, the
trace of unknown-opcode events, and the number of free values drawn so far. -/

namespace Sys2Proof.Machine

/-- The seven status flags, independent one-bit values in no packed layout (10_state.md R17). -/
structure Flags where
  /-- carry -/
  c : Bool
  /-- zero -/
  z : Bool
  /-- interrupt-disable -/
  i : Bool
  /-- decimal-mode -/
  d : Bool
  /-- break -/
  b : Bool
  /-- overflow -/
  v : Bool
  /-- negative -/
  n : Bool
  deriving DecidableEq, Repr

/-- The execution-loop state LS (10_state.md R19). -/
inductive LoopState where
  /-- after construction, before the first reset -/
  | unreset
  /-- idle at an instruction boundary -/
  | halted
  /-- a run is in progress -/
  | running
  /-- a fatal precondition violation ended the run -/
  | faulted
  deriving DecidableEq, Repr

/-- The kinds of FatalPrecondition, and none (60_exceptions.md R92). -/
inductive FaultKind where
  /-- no fault -/
  | noFault
  /-- a fetch would advance PC to 0x10000 -/
  | fetchAdvance
  /-- a read at a raw address of 0x10000 or more -/
  | read
  /-- a write at a raw address of 0x10000 or more -/
  | write
  deriving DecidableEq, Repr

/-- The fault record FR: a kind and a 17-bit raw address (10_state.md R20). -/
structure FaultRecord where
  kind : FaultKind
  addr : BitVec 17
  deriving DecidableEq, Repr

/-- What `inspect` can name: the read-only accessors of 10_state.md R24. -/
inductive InspectName where
  | pc | sp | a | x | y
  | c | z | i | d | b | v | n
  | mem (addr : Nat)
  | cb | ls | fr
  deriving DecidableEq, Repr

/-- The five things the host can do (40_fetch_dispatch_loop.md R68). -/
inductive HostOp where
  | reset
  | load (addr : Nat) (byte : Byte)
  | execute (budget : Int)
  | step
  | inspect (name : InspectName)
  deriving DecidableEq, Repr

/-- One unknown-opcode event: the opcode value and the address it was fetched from (40_fetch_dispatch_loop.md R66). -/
structure UnkEvent where
  opcode : Byte
  addr : Word
  deriving DecidableEq, Repr

/-- The whole state. -/
structure State where
  /-- program counter (10_state.md R11) -/
  pc : Word
  /-- stack pointer, 16 bits wide (R12, 90_conflicts.md C1) -/
  sp : Word
  /-- accumulator (R13) -/
  a : Byte
  /-- index register X (R14) -/
  x : Byte
  /-- index register Y (R15) -/
  y : Byte
  /-- the seven status flags (R17) -/
  flags : Flags
  /-- the AddressSpace (20_memory.md R25): address and byte pairs, addresses rising, no byte of zero listed -/
  mem : List Host.Cell
  /-- the signed cycle budget CB (R18) -/
  cb : Int
  /-- the execution-loop state LS (R19) -/
  ls : LoopState
  /-- the fault record FR (R20) -/
  fr : FaultRecord
  /-- the model's own: the operations the host will perform, the next one first (notes/assumptions/5.md) -/
  hostQueue : List HostOp
  /-- the model's own: the unknown-opcode events emitted so far, the latest first (R66, notes/assumptions/7.md) -/
  unkEvents : List UnkEvent
  /-- the model's own: how many times unspecified contents were drawn (notes/assumptions/3.md) -/
  draws : Nat
  deriving DecidableEq, Repr

/-- The machine right after reset: R108 and R111, with no host operation pending and no event emitted. -/
def State.reset : State where
  pc := Config.resetPc
  sp := Config.resetSp
  a := 0
  x := 0
  y := 0
  flags := ⟨false, false, false, false, false, false, false⟩
  mem := []
  cb := 0
  ls := .halted
  fr := ⟨.noFault, 0⟩
  hostQueue := []
  unkEvents := []
  draws := 0

/-- Reasons for a step to stop the model.  There are none: the one fault of this hardware, FatalPrecondition, has its
effect in the spec (FR and LS = FAULTED, 60_exceptions.md R94) and the host can go on from it with a reset, so it is a
next state; "no behaviour of the core is stuck" (93_implementation_defined.md).  Nothing raises one, which is neither
safe nor unsafe (notes/assumptions/2.md). -/
inductive Fault where
  deriving DecidableEq, Repr

/-- Reasons for a step to be refused. -/
inductive Refusal where
  /-- the instruction has no meaning yet; raised by an arm of `exec` that rejects its instruction by name, of which none
  is left; safe -/
  | notModelled (mnemonic : String)
  deriving DecidableEq, Repr

/-- The three outcomes of a step of this machine. -/
abbrev Outcome := Host.Outcome State Fault Refusal

end Sys2Proof.Machine
end

