-- ==== Sys2Proof/Machine/Memory.lean ====
section
/-! DEFINITION. The AddressSpace as a list of cells in one canonical form: addresses strictly rising and below 65536, and
no cell of zero, which is what an unlisted address reads as (20_memory.md R25, R35). -/

namespace Sys2Proof.Machine

/-- The byte at an address; an unlisted one is zero, as reset and construction leave it (R35). -/
def Memory.read : List Host.Cell → Nat → Byte
  | [], _ => 0
  | (b, w) :: rest, a => if b = a then w else Memory.read rest a

/-- Put a byte at an address: only that cell changes (R27).  Writing zero unlists the address. -/
def Memory.write : List Host.Cell → Nat → Byte → List Host.Cell
  | [], a, v => if v = 0 then [] else [(a, v)]
  | (b, w) :: rest, a, v =>
    if a < b then (if v = 0 then (b, w) :: rest else (a, v) :: (b, w) :: rest)
    else if a = b then (if v = 0 then rest else (a, v) :: rest)
    else (b, w) :: Memory.write rest a v

/-- The canonical form. -/
def Memory.wf : List Host.Cell → Bool
  | [] => true
  | (a, v) :: rest =>
    decide (a < Config.memSize) && decide (v ≠ 0) && rest.all (fun c => decide (a < c.1)) && Memory.wf rest

/-- The memory that holds the bytes of any list of cells, an earlier cell over a later one; cells outside the address
space are left out. -/
def Memory.ofCells : List Host.Cell → List Host.Cell
  | [] => []
  | (a, v) :: rest =>
    if a < Config.memSize then Memory.write (Memory.ofCells rest) a v else Memory.ofCells rest

/-- Up to `n` consecutive bytes from address `a` on, as many as the address space has: nothing is read past 65535 and
nothing wraps (R32). -/
def Memory.bytesFrom (m : List Host.Cell) (a : Nat) : Nat → List Byte
  | 0 => []
  | n + 1 => if a < Config.memSize then Memory.read m a :: Memory.bytesFrom m (a + 1) n else []

/-- Write consecutive bytes from address `a` on, as far as the address space goes. -/
def Memory.writeBytes (m : List Host.Cell) (a : Nat) : List Byte → List Host.Cell
  | [] => m
  | v :: rest =>
    if a < Config.memSize then Memory.writeBytes (Memory.write m a v) (a + 1) rest else m

end Sys2Proof.Machine
end

