-- ==== Sys2Proof/Machine/Ops.lean ====
section
/-! DEFINITION. The named operations: the updates of State, the access primitives and the fetch unit as micro-operations
(20_memory.md R26 to R28, 40_fetch_dispatch_loop.md R52 to R56), and the one exception, FatalPrecondition, with its action
(60_exceptions.md R94, R95). -/

namespace Sys2Proof.Machine

/-! ### Updates of one field -/

def State.setPc (s : State) (v : Word) : State := { s with pc := v }
def State.setSp (s : State) (v : Word) : State := { s with sp := v }
def State.setA (s : State) (v : Byte) : State := { s with a := v }
def State.setFlags (s : State) (f : Flags) : State := { s with flags := f }
def State.setMem (s : State) (m : List Host.Cell) : State := { s with mem := m }
def State.setCb (s : State) (n : Int) : State := { s with cb := n }
def State.setLs (s : State) (l : LoopState) : State := { s with ls := l }
def State.setHostQueue (s : State) (q : List HostOp) : State := { s with hostQueue := q }

/-- `Debit(n)`: CB goes down by n, with no clamp and no check (40_fetch_dispatch_loop.md R52). -/
def State.debit (s : State) (n : Int) : State := { s with cb := s.cb - n }

/-- Record one unknown-opcode event; no architectural state changes (40_fetch_dispatch_loop.md R66). -/
def State.emitUnk (s : State) (op : Byte) (p : Word) : State := { s with unkEvents := ⟨op, p⟩ :: s.unkEvents }

/-! ### Unspecified contents and the fatal-precondition fault -/

/-- The fault kind of a code 0 to 3 (60_exceptions.md R92). -/
def FaultKind.ofCode (k : BitVec 2) : FaultKind :=
  if k = 0 then .noFault else if k = 1 then .fetchAdvance else if k = 2 then .read else .write

/-- Free contents for every register, flag, the budget, memory and the fault record.  The caller gives what is specified
beside them.  It uses draw number `s.draws` and counts it (notes/assumptions/3.md). -/
def unspecified (s : State) : State where
  pc := Config.freePc s.draws
  sp := Config.freeSp s.draws
  a := Config.freeA s.draws
  x := Config.freeX s.draws
  y := Config.freeY s.draws
  flags :=
    { c := Config.freeC s.draws, z := Config.freeZ s.draws, i := Config.freeI s.draws, d := Config.freeD s.draws,
      b := Config.freeB s.draws, v := Config.freeV s.draws, n := Config.freeN s.draws }
  mem := Memory.ofCells (Config.freeCells s.draws)
  cb := Config.freeCb s.draws
  ls := s.ls
  fr := ⟨FaultKind.ofCode (Config.freeFaultKind s.draws), Config.freeFaultAddr s.draws⟩
  hostQueue := s.hostQueue
  unkEvents := s.unkEvents
  draws := s.draws + 1

/-- `raise FatalPrecondition(kind, addr)`: FR and LS are set, the run ends, and every register, flag, CB and memory byte
is unspecified from then on (60_exceptions.md R94, R95).  There is no trap entry (R96). -/
def raiseFatal (kind : FaultKind) (addr : Nat) (s : State) : State :=
  { unspecified s with ls := .faulted, fr := ⟨kind, BitVec.ofNat 17 addr⟩ }

/-! ### Micro-operations -/

/-- What a piece of an instruction does: it yields a value and a state, or raises FatalPrecondition with a kind and the
offending raw address (00_scope.md R8). -/
inductive Micro (α : Type) where
  | done (v : α) (s : State)
  | fatal (kind : FaultKind) (addr : Nat)

/-- Do one piece after another; a FatalPrecondition ends the instruction at once (40_fetch_dispatch_loop.md R61). -/
def Micro.bind {α β : Type} (m : Micro α) (k : α → State → Micro β) : Micro β :=
  match m with
  | .done v s => k v s
  | .fatal kind addr => .fatal kind addr

/-- The end of an instruction that began in state `s`: the state its last micro-op left, or the fault action. -/
def finish (s : State) (m : Micro Unit) : Outcome :=
  match m with
  | .done _ t => .next t
  | .fatal kind addr => .next (raiseFatal kind addr s)

/-- `MemRead(addr, 1)`: the byte at a raw address; no side effect, no debit (20_memory.md R26). -/
def memRead (addr : Nat) (s : State) : Micro Byte :=
  if Config.memSize ≤ addr then .fatal .read addr else .done (Memory.read s.mem addr) s

/-- `MemWrite(addr, 1, v)`: one byte at a raw address; no debit (20_memory.md R27). -/
def memWrite (addr : Nat) (v : Byte) (s : State) : Micro Unit :=
  if Config.memSize ≤ addr then .fatal .write addr else .done () (s.setMem (Memory.write s.mem addr v))

/-- `FetchByte()`, the FETCH micro-op: read the byte at PC, advance PC by an exact 1 or raise FETCH_ADVANCE where that
leaves the address space, debit 1 (40_fetch_dispatch_loop.md R54, 41_addressing_alu.md R80). -/
def fetchByte (s : State) : Micro Byte :=
  (memRead s.pc.toNat s).bind fun v s1 =>
  let next := s1.pc.toNat + 1
  if Config.memSize ≤ next then .fatal .fetchAdvance next
  else .done v ((s1.setPc (BitVec.ofNat 16 next)).debit 1)

/-- `FetchWord()`: two FETCH micro-ops, the low byte first (40_fetch_dispatch_loop.md R55, 20_memory.md R29). -/
def fetchWord (s : State) : Micro Word :=
  (fetchByte s).bind fun lo s1 =>
  (fetchByte s1).bind fun hi s2 =>
  .done (wordOf hi lo) s2

/-! ### The micro-operations of JSR -/

/-- `ret = PC - 1`, 16 bits (41_addressing_alu.md R81). -/
def returnAddress (s : State) : Word := s.pc - 1

/-- WRITE_LO: bits 7:0 of the return address at raw address SP; debit 1 (43_subroutine.md R87, 20_memory.md R30). -/
def writeLo (ret : Word) (s : State) : Micro Unit :=
  (memWrite s.sp.toNat (loByte ret) s).bind fun _ s1 => .done () (s1.debit 1)

/-- WRITE_HI: bits 15:8 of the return address at raw address SP + 1, an exact sum; debit 1 (43_subroutine.md R87,
41_addressing_alu.md R82). -/
def writeHi (ret : Word) (s : State) : Micro Unit :=
  (memWrite (s.sp.toNat + 1) (hiByte ret) s).bind fun _ s1 => .done () (s1.debit 1)

/-- JSR_COMMIT: SP goes up by one modulo 2^16, PC takes the target; debit 1 (43_subroutine.md R87, 10_state.md R12). -/
def jsrCommit (target : Word) (s : State) : Micro Unit :=
  .done () (((s.setSp (s.sp + 1)).setPc target).debit 1)

end Sys2Proof.Machine
end

