-- ==== Sys2Proof/Machine/Flags.lean ====
section
/-! DEFINITION. The flag generator (41_addressing_alu.md R78, R79). -/

namespace Sys2Proof.Machine

/-- The flags after `SetNZ(v)`: Z is set iff v is zero, N is bit 7 of v, the five others keep their value (R78, R79). -/
def Flags.nz (f : Flags) (v : Byte) : Flags := { f with z := v == 0, n := v.getLsbD 7 }

/-- `SetNZ(v)` (R78). -/
def setNZ (v : Byte) (s : State) : State := s.setFlags (s.flags.nz v)

/-- The end of every load: write A, then set Z and N from the value (R78). -/
def loadA (v : Byte) (s : State) : State := setNZ v (s.setA v)

end Sys2Proof.Machine
end

