-- ==== Sys2Proof/Machine/Operands.lean ====
section
/-! DEFINITION. The addressing-mode resolver (41_addressing_alu.md R71 to R77).  Each mode fetches its operand byte with
the fetch unit; the decoder has already read that byte's value into the instruction (notes/assumptions/14.md), so the
resolver takes the value as an argument and the fetch moves PC and debits. -/

namespace Sys2Proof.Machine

/-- The address adder: an exact 9-bit sum of the operand and X, or that sum modulo 256 where ZPX_WRAP is set.  It has no
carry-in and writes no flag (R74, R75, R77). -/
def agu (wrap : Bool) (zp x : Byte) : Nat :=
  if wrap then (zp.toNat + x.toNat) % 256 else zp.toNat + x.toNat

/-- Immediate mode: the operand is the fetched byte itself (R72). -/
def resolveImm (imm8 : Byte) (s : State) : Micro Byte :=
  (fetchByte s).bind fun _ s1 => .done imm8 s1

/-- Zero-page mode: the operand byte, zero-extended, is the address (R73). -/
def resolveZp (zp : Byte) (s : State) : Micro Nat :=
  (fetchByte s).bind fun _ s1 => .done zp.toNat s1

/-- Zero-page-indexed-by-X mode: the operand fetch, then the INDEX_ADD micro-op, which debits 1 (R74). -/
def resolveZpx (wrap : Bool) (zp : Byte) (s : State) : Micro Nat :=
  (fetchByte s).bind fun _ s1 => .done (agu wrap zp s1.x) (s1.debit 1)

/-- The absolute word JSR fetches as its target; it is never read as data (R71). -/
def resolveAbs (target : Word) (s : State) : Micro Word :=
  (fetchWord s).bind fun _ s1 => .done target s1

/-- The READ_EA micro-op: one data read at the effective address, debit 1 (R73). -/
def readEa (ea : Nat) (s : State) : Micro Byte :=
  (memRead ea s).bind fun v s1 => .done v (s1.debit 1)

end Sys2Proof.Machine
end

