-- ==== Sys2Proof/Machine/Load.lean ====
section
/-! DEFINITION. The load-accumulator family (42_load.md R84 to R86).  Each meaning runs the whole instruction from the
boundary at which PC holds the opcode's address: the opcode fetch, the operand fetch, the data read, A, Z and N. -/

namespace Sys2Proof.Machine

/-- LDA #imm, opcode 0xA9, 2 cycles (R84). -/
def execLdaImm (imm8 : Byte) (s : State) : Outcome :=
  finish s <|
    (fetchByte s).bind fun _ s1 =>
    (resolveImm imm8 s1).bind fun v s2 =>
    .done () (loadA v s2)

/-- LDA zp, opcode 0xA5, 3 cycles (R85). -/
def execLdaZp (zp : Byte) (s : State) : Outcome :=
  finish s <|
    (fetchByte s).bind fun _ s1 =>
    (resolveZp zp s1).bind fun ea s2 =>
    (readEa ea s2).bind fun v s3 =>
    .done () (loadA v s3)

/-- The zero-page-X load under either setting of the parameter ZPX_WRAP (R86, 41_addressing_alu.md R75). -/
def loadZpx (wrap : Bool) (zp : Byte) (s : State) : Outcome :=
  finish s <|
    (fetchByte s).bind fun _ s1 =>
    (resolveZpx wrap zp s1).bind fun ea s2 =>
    (readEa ea s2).bind fun v s3 =>
    .done () (loadA v s3)

/-- LDA zp,X, opcode 0xB5, 4 cycles, with the setting this hardware takes (R86). -/
def execLdaZpx (zp : Byte) (s : State) : Outcome := loadZpx Config.zpxWrap zp s

end Sys2Proof.Machine
end

