-- ==== Sys2Proof/Machine/Subroutine.lean ====
section
/-! DEFINITION. The subroutine call (43_subroutine.md R87). -/

namespace Sys2Proof.Machine

/-- JSR abs, opcode 0x20, 6 cycles: the opcode and target fetches, the two byte writes at SP and SP + 1, the commit
(R87). -/
def execJsr (target : Word) (s : State) : Outcome :=
  finish s <|
    (fetchByte s).bind fun _ s1 =>
    (resolveAbs target s1).bind fun t s2 =>
    let ret := returnAddress s2
    (writeLo ret s2).bind fun _ s3 =>
    (writeHi ret s3).bind fun _ s4 =>
    jsrCommit t s4

end Sys2Proof.Machine
end

