-- ==== Sys2Proof/Machine/Unknown.lean ====
section
/-! DEFINITION. The 252 unknown opcodes (44_unknown_opcode.md R90, R91).  Each is a one-byte instruction that changes
nothing but PC and CB and emits an observability event; none has a 6502 meaning. -/

namespace Sys2Proof.Machine

/-- UNK(op): the opcode fetch, then the event with the opcode and the address it was fetched from; no register, flag or
memory write (R90, 40_fetch_dispatch_loop.md R66). -/
def unknownOpcode (op : Byte) (s : State) : Outcome :=
  finish s <|
    (fetchByte s).bind fun _ s1 =>
    .done () (s1.emitUnk op s.pc)

/-- UNK_00, opcode 0x00 (R90). -/
def execUnk00 (s : State) : Outcome := unknownOpcode 0x00#8 s

/-- UNK_01, opcode 0x01 (R90). -/
def execUnk01 (s : State) : Outcome := unknownOpcode 0x01#8 s

/-- UNK_02, opcode 0x02 (R90). -/
def execUnk02 (s : State) : Outcome := unknownOpcode 0x02#8 s

/-- UNK_03, opcode 0x03 (R90). -/
def execUnk03 (s : State) : Outcome := unknownOpcode 0x03#8 s

/-- UNK_04, opcode 0x04 (R90). -/
def execUnk04 (s : State) : Outcome := unknownOpcode 0x04#8 s

/-- UNK_05, opcode 0x05 (R90). -/
def execUnk05 (s : State) : Outcome := unknownOpcode 0x05#8 s

/-- UNK_06, opcode 0x06 (R90). -/
def execUnk06 (s : State) : Outcome := unknownOpcode 0x06#8 s

/-- UNK_07, opcode 0x07 (R90). -/
def execUnk07 (s : State) : Outcome := unknownOpcode 0x07#8 s

/-- UNK_08, opcode 0x08 (R90). -/
def execUnk08 (s : State) : Outcome := unknownOpcode 0x08#8 s

/-- UNK_09, opcode 0x09 (R90). -/
def execUnk09 (s : State) : Outcome := unknownOpcode 0x09#8 s

/-- UNK_0A, opcode 0x0A (R90). -/
def execUnk0A (s : State) : Outcome := unknownOpcode 0x0A#8 s

/-- UNK_0B, opcode 0x0B (R90). -/
def execUnk0B (s : State) : Outcome := unknownOpcode 0x0B#8 s

/-- UNK_0C, opcode 0x0C (R90). -/
def execUnk0C (s : State) : Outcome := unknownOpcode 0x0C#8 s

/-- UNK_0D, opcode 0x0D (R90). -/
def execUnk0D (s : State) : Outcome := unknownOpcode 0x0D#8 s

/-- UNK_0E, opcode 0x0E (R90). -/
def execUnk0E (s : State) : Outcome := unknownOpcode 0x0E#8 s

/-- UNK_0F, opcode 0x0F (R90). -/
def execUnk0F (s : State) : Outcome := unknownOpcode 0x0F#8 s

/-- UNK_10, opcode 0x10 (R90). -/
def execUnk10 (s : State) : Outcome := unknownOpcode 0x10#8 s

/-- UNK_11, opcode 0x11 (R90). -/
def execUnk11 (s : State) : Outcome := unknownOpcode 0x11#8 s

/-- UNK_12, opcode 0x12 (R90). -/
def execUnk12 (s : State) : Outcome := unknownOpcode 0x12#8 s

/-- UNK_13, opcode 0x13 (R90). -/
def execUnk13 (s : State) : Outcome := unknownOpcode 0x13#8 s

/-- UNK_14, opcode 0x14 (R90). -/
def execUnk14 (s : State) : Outcome := unknownOpcode 0x14#8 s

/-- UNK_15, opcode 0x15 (R90). -/
def execUnk15 (s : State) : Outcome := unknownOpcode 0x15#8 s

/-- UNK_16, opcode 0x16 (R90). -/
def execUnk16 (s : State) : Outcome := unknownOpcode 0x16#8 s

/-- UNK_17, opcode 0x17 (R90). -/
def execUnk17 (s : State) : Outcome := unknownOpcode 0x17#8 s

/-- UNK_18, opcode 0x18 (R90). -/
def execUnk18 (s : State) : Outcome := unknownOpcode 0x18#8 s

/-- UNK_19, opcode 0x19 (R90). -/
def execUnk19 (s : State) : Outcome := unknownOpcode 0x19#8 s

/-- UNK_1A, opcode 0x1A (R90). -/
def execUnk1A (s : State) : Outcome := unknownOpcode 0x1A#8 s

/-- UNK_1B, opcode 0x1B (R90). -/
def execUnk1B (s : State) : Outcome := unknownOpcode 0x1B#8 s

/-- UNK_1C, opcode 0x1C (R90). -/
def execUnk1C (s : State) : Outcome := unknownOpcode 0x1C#8 s

/-- UNK_1D, opcode 0x1D (R90). -/
def execUnk1D (s : State) : Outcome := unknownOpcode 0x1D#8 s

/-- UNK_1E, opcode 0x1E (R90). -/
def execUnk1E (s : State) : Outcome := unknownOpcode 0x1E#8 s

/-- UNK_1F, opcode 0x1F (R90). -/
def execUnk1F (s : State) : Outcome := unknownOpcode 0x1F#8 s

/-- UNK_21, opcode 0x21 (R90). -/
def execUnk21 (s : State) : Outcome := unknownOpcode 0x21#8 s

/-- UNK_22, opcode 0x22 (R90). -/
def execUnk22 (s : State) : Outcome := unknownOpcode 0x22#8 s

/-- UNK_23, opcode 0x23 (R90). -/
def execUnk23 (s : State) : Outcome := unknownOpcode 0x23#8 s

/-- UNK_24, opcode 0x24 (R90). -/
def execUnk24 (s : State) : Outcome := unknownOpcode 0x24#8 s

/-- UNK_25, opcode 0x25 (R90). -/
def execUnk25 (s : State) : Outcome := unknownOpcode 0x25#8 s

/-- UNK_26, opcode 0x26 (R90). -/
def execUnk26 (s : State) : Outcome := unknownOpcode 0x26#8 s

/-- UNK_27, opcode 0x27 (R90). -/
def execUnk27 (s : State) : Outcome := unknownOpcode 0x27#8 s

/-- UNK_28, opcode 0x28 (R90). -/
def execUnk28 (s : State) : Outcome := unknownOpcode 0x28#8 s

/-- UNK_29, opcode 0x29 (R90). -/
def execUnk29 (s : State) : Outcome := unknownOpcode 0x29#8 s

/-- UNK_2A, opcode 0x2A (R90). -/
def execUnk2A (s : State) : Outcome := unknownOpcode 0x2A#8 s

/-- UNK_2B, opcode 0x2B (R90). -/
def execUnk2B (s : State) : Outcome := unknownOpcode 0x2B#8 s

/-- UNK_2C, opcode 0x2C (R90). -/
def execUnk2C (s : State) : Outcome := unknownOpcode 0x2C#8 s

/-- UNK_2D, opcode 0x2D (R90). -/
def execUnk2D (s : State) : Outcome := unknownOpcode 0x2D#8 s

/-- UNK_2E, opcode 0x2E (R90). -/
def execUnk2E (s : State) : Outcome := unknownOpcode 0x2E#8 s

/-- UNK_2F, opcode 0x2F (R90). -/
def execUnk2F (s : State) : Outcome := unknownOpcode 0x2F#8 s

/-- UNK_30, opcode 0x30 (R90). -/
def execUnk30 (s : State) : Outcome := unknownOpcode 0x30#8 s

/-- UNK_31, opcode 0x31 (R90). -/
def execUnk31 (s : State) : Outcome := unknownOpcode 0x31#8 s

/-- UNK_32, opcode 0x32 (R90). -/
def execUnk32 (s : State) : Outcome := unknownOpcode 0x32#8 s

/-- UNK_33, opcode 0x33 (R90). -/
def execUnk33 (s : State) : Outcome := unknownOpcode 0x33#8 s

/-- UNK_34, opcode 0x34 (R90). -/
def execUnk34 (s : State) : Outcome := unknownOpcode 0x34#8 s

/-- UNK_35, opcode 0x35 (R90). -/
def execUnk35 (s : State) : Outcome := unknownOpcode 0x35#8 s

/-- UNK_36, opcode 0x36 (R90). -/
def execUnk36 (s : State) : Outcome := unknownOpcode 0x36#8 s

/-- UNK_37, opcode 0x37 (R90). -/
def execUnk37 (s : State) : Outcome := unknownOpcode 0x37#8 s

/-- UNK_38, opcode 0x38 (R90). -/
def execUnk38 (s : State) : Outcome := unknownOpcode 0x38#8 s

/-- UNK_39, opcode 0x39 (R90). -/
def execUnk39 (s : State) : Outcome := unknownOpcode 0x39#8 s

/-- UNK_3A, opcode 0x3A (R90). -/
def execUnk3A (s : State) : Outcome := unknownOpcode 0x3A#8 s

/-- UNK_3B, opcode 0x3B (R90). -/
def execUnk3B (s : State) : Outcome := unknownOpcode 0x3B#8 s

/-- UNK_3C, opcode 0x3C (R90). -/
def execUnk3C (s : State) : Outcome := unknownOpcode 0x3C#8 s

/-- UNK_3D, opcode 0x3D (R90). -/
def execUnk3D (s : State) : Outcome := unknownOpcode 0x3D#8 s

/-- UNK_3E, opcode 0x3E (R90). -/
def execUnk3E (s : State) : Outcome := unknownOpcode 0x3E#8 s

/-- UNK_3F, opcode 0x3F (R90). -/
def execUnk3F (s : State) : Outcome := unknownOpcode 0x3F#8 s

/-- UNK_40, opcode 0x40 (R90). -/
def execUnk40 (s : State) : Outcome := unknownOpcode 0x40#8 s

/-- UNK_41, opcode 0x41 (R90). -/
def execUnk41 (s : State) : Outcome := unknownOpcode 0x41#8 s

/-- UNK_42, opcode 0x42 (R90). -/
def execUnk42 (s : State) : Outcome := unknownOpcode 0x42#8 s

/-- UNK_43, opcode 0x43 (R90). -/
def execUnk43 (s : State) : Outcome := unknownOpcode 0x43#8 s

/-- UNK_44, opcode 0x44 (R90). -/
def execUnk44 (s : State) : Outcome := unknownOpcode 0x44#8 s

/-- UNK_45, opcode 0x45 (R90). -/
def execUnk45 (s : State) : Outcome := unknownOpcode 0x45#8 s

/-- UNK_46, opcode 0x46 (R90). -/
def execUnk46 (s : State) : Outcome := unknownOpcode 0x46#8 s

/-- UNK_47, opcode 0x47 (R90). -/
def execUnk47 (s : State) : Outcome := unknownOpcode 0x47#8 s

/-- UNK_48, opcode 0x48 (R90). -/
def execUnk48 (s : State) : Outcome := unknownOpcode 0x48#8 s

/-- UNK_49, opcode 0x49 (R90). -/
def execUnk49 (s : State) : Outcome := unknownOpcode 0x49#8 s

/-- UNK_4A, opcode 0x4A (R90). -/
def execUnk4A (s : State) : Outcome := unknownOpcode 0x4A#8 s

/-- UNK_4B, opcode 0x4B (R90). -/
def execUnk4B (s : State) : Outcome := unknownOpcode 0x4B#8 s

/-- UNK_4C, opcode 0x4C (R90). -/
def execUnk4C (s : State) : Outcome := unknownOpcode 0x4C#8 s

/-- UNK_4D, opcode 0x4D (R90). -/
def execUnk4D (s : State) : Outcome := unknownOpcode 0x4D#8 s

/-- UNK_4E, opcode 0x4E (R90). -/
def execUnk4E (s : State) : Outcome := unknownOpcode 0x4E#8 s

/-- UNK_4F, opcode 0x4F (R90). -/
def execUnk4F (s : State) : Outcome := unknownOpcode 0x4F#8 s

/-- UNK_50, opcode 0x50 (R90). -/
def execUnk50 (s : State) : Outcome := unknownOpcode 0x50#8 s

/-- UNK_51, opcode 0x51 (R90). -/
def execUnk51 (s : State) : Outcome := unknownOpcode 0x51#8 s

/-- UNK_52, opcode 0x52 (R90). -/
def execUnk52 (s : State) : Outcome := unknownOpcode 0x52#8 s

/-- UNK_53, opcode 0x53 (R90). -/
def execUnk53 (s : State) : Outcome := unknownOpcode 0x53#8 s

/-- UNK_54, opcode 0x54 (R90). -/
def execUnk54 (s : State) : Outcome := unknownOpcode 0x54#8 s

/-- UNK_55, opcode 0x55 (R90). -/
def execUnk55 (s : State) : Outcome := unknownOpcode 0x55#8 s

/-- UNK_56, opcode 0x56 (R90). -/
def execUnk56 (s : State) : Outcome := unknownOpcode 0x56#8 s

/-- UNK_57, opcode 0x57 (R90). -/
def execUnk57 (s : State) : Outcome := unknownOpcode 0x57#8 s

/-- UNK_58, opcode 0x58 (R90). -/
def execUnk58 (s : State) : Outcome := unknownOpcode 0x58#8 s

/-- UNK_59, opcode 0x59 (R90). -/
def execUnk59 (s : State) : Outcome := unknownOpcode 0x59#8 s

/-- UNK_5A, opcode 0x5A (R90). -/
def execUnk5A (s : State) : Outcome := unknownOpcode 0x5A#8 s

/-- UNK_5B, opcode 0x5B (R90). -/
def execUnk5B (s : State) : Outcome := unknownOpcode 0x5B#8 s

/-- UNK_5C, opcode 0x5C (R90). -/
def execUnk5C (s : State) : Outcome := unknownOpcode 0x5C#8 s

/-- UNK_5D, opcode 0x5D (R90). -/
def execUnk5D (s : State) : Outcome := unknownOpcode 0x5D#8 s

/-- UNK_5E, opcode 0x5E (R90). -/
def execUnk5E (s : State) : Outcome := unknownOpcode 0x5E#8 s

/-- UNK_5F, opcode 0x5F (R90). -/
def execUnk5F (s : State) : Outcome := unknownOpcode 0x5F#8 s

/-- UNK_60, opcode 0x60 (R90). -/
def execUnk60 (s : State) : Outcome := unknownOpcode 0x60#8 s

/-- UNK_61, opcode 0x61 (R90). -/
def execUnk61 (s : State) : Outcome := unknownOpcode 0x61#8 s

/-- UNK_62, opcode 0x62 (R90). -/
def execUnk62 (s : State) : Outcome := unknownOpcode 0x62#8 s

/-- UNK_63, opcode 0x63 (R90). -/
def execUnk63 (s : State) : Outcome := unknownOpcode 0x63#8 s

/-- UNK_64, opcode 0x64 (R90). -/
def execUnk64 (s : State) : Outcome := unknownOpcode 0x64#8 s

/-- UNK_65, opcode 0x65 (R90). -/
def execUnk65 (s : State) : Outcome := unknownOpcode 0x65#8 s

/-- UNK_66, opcode 0x66 (R90). -/
def execUnk66 (s : State) : Outcome := unknownOpcode 0x66#8 s

/-- UNK_67, opcode 0x67 (R90). -/
def execUnk67 (s : State) : Outcome := unknownOpcode 0x67#8 s

/-- UNK_68, opcode 0x68 (R90). -/
def execUnk68 (s : State) : Outcome := unknownOpcode 0x68#8 s

/-- UNK_69, opcode 0x69 (R90). -/
def execUnk69 (s : State) : Outcome := unknownOpcode 0x69#8 s

/-- UNK_6A, opcode 0x6A (R90). -/
def execUnk6A (s : State) : Outcome := unknownOpcode 0x6A#8 s

/-- UNK_6B, opcode 0x6B (R90). -/
def execUnk6B (s : State) : Outcome := unknownOpcode 0x6B#8 s

/-- UNK_6C, opcode 0x6C (R90). -/
def execUnk6C (s : State) : Outcome := unknownOpcode 0x6C#8 s

/-- UNK_6D, opcode 0x6D (R90). -/
def execUnk6D (s : State) : Outcome := unknownOpcode 0x6D#8 s

/-- UNK_6E, opcode 0x6E (R90). -/
def execUnk6E (s : State) : Outcome := unknownOpcode 0x6E#8 s

/-- UNK_6F, opcode 0x6F (R90). -/
def execUnk6F (s : State) : Outcome := unknownOpcode 0x6F#8 s

/-- UNK_70, opcode 0x70 (R90). -/
def execUnk70 (s : State) : Outcome := unknownOpcode 0x70#8 s

/-- UNK_71, opcode 0x71 (R90). -/
def execUnk71 (s : State) : Outcome := unknownOpcode 0x71#8 s

/-- UNK_72, opcode 0x72 (R90). -/
def execUnk72 (s : State) : Outcome := unknownOpcode 0x72#8 s

/-- UNK_73, opcode 0x73 (R90). -/
def execUnk73 (s : State) : Outcome := unknownOpcode 0x73#8 s

/-- UNK_74, opcode 0x74 (R90). -/
def execUnk74 (s : State) : Outcome := unknownOpcode 0x74#8 s

/-- UNK_75, opcode 0x75 (R90). -/
def execUnk75 (s : State) : Outcome := unknownOpcode 0x75#8 s

/-- UNK_76, opcode 0x76 (R90). -/
def execUnk76 (s : State) : Outcome := unknownOpcode 0x76#8 s

/-- UNK_77, opcode 0x77 (R90). -/
def execUnk77 (s : State) : Outcome := unknownOpcode 0x77#8 s

/-- UNK_78, opcode 0x78 (R90). -/
def execUnk78 (s : State) : Outcome := unknownOpcode 0x78#8 s

/-- UNK_79, opcode 0x79 (R90). -/
def execUnk79 (s : State) : Outcome := unknownOpcode 0x79#8 s

/-- UNK_7A, opcode 0x7A (R90). -/
def execUnk7A (s : State) : Outcome := unknownOpcode 0x7A#8 s

/-- UNK_7B, opcode 0x7B (R90). -/
def execUnk7B (s : State) : Outcome := unknownOpcode 0x7B#8 s

/-- UNK_7C, opcode 0x7C (R90). -/
def execUnk7C (s : State) : Outcome := unknownOpcode 0x7C#8 s

/-- UNK_7D, opcode 0x7D (R90). -/
def execUnk7D (s : State) : Outcome := unknownOpcode 0x7D#8 s

/-- UNK_7E, opcode 0x7E (R90). -/
def execUnk7E (s : State) : Outcome := unknownOpcode 0x7E#8 s

/-- UNK_7F, opcode 0x7F (R90). -/
def execUnk7F (s : State) : Outcome := unknownOpcode 0x7F#8 s

/-- UNK_80, opcode 0x80 (R90). -/
def execUnk80 (s : State) : Outcome := unknownOpcode 0x80#8 s

/-- UNK_81, opcode 0x81 (R90). -/
def execUnk81 (s : State) : Outcome := unknownOpcode 0x81#8 s

/-- UNK_82, opcode 0x82 (R90). -/
def execUnk82 (s : State) : Outcome := unknownOpcode 0x82#8 s

/-- UNK_83, opcode 0x83 (R90). -/
def execUnk83 (s : State) : Outcome := unknownOpcode 0x83#8 s

/-- UNK_84, opcode 0x84 (R90). -/
def execUnk84 (s : State) : Outcome := unknownOpcode 0x84#8 s

/-- UNK_85, opcode 0x85 (R90). -/
def execUnk85 (s : State) : Outcome := unknownOpcode 0x85#8 s

/-- UNK_86, opcode 0x86 (R90). -/
def execUnk86 (s : State) : Outcome := unknownOpcode 0x86#8 s

/-- UNK_87, opcode 0x87 (R90). -/
def execUnk87 (s : State) : Outcome := unknownOpcode 0x87#8 s

/-- UNK_88, opcode 0x88 (R90). -/
def execUnk88 (s : State) : Outcome := unknownOpcode 0x88#8 s

/-- UNK_89, opcode 0x89 (R90). -/
def execUnk89 (s : State) : Outcome := unknownOpcode 0x89#8 s

/-- UNK_8A, opcode 0x8A (R90). -/
def execUnk8A (s : State) : Outcome := unknownOpcode 0x8A#8 s

/-- UNK_8B, opcode 0x8B (R90). -/
def execUnk8B (s : State) : Outcome := unknownOpcode 0x8B#8 s

/-- UNK_8C, opcode 0x8C (R90). -/
def execUnk8C (s : State) : Outcome := unknownOpcode 0x8C#8 s

/-- UNK_8D, opcode 0x8D (R90). -/
def execUnk8D (s : State) : Outcome := unknownOpcode 0x8D#8 s

/-- UNK_8E, opcode 0x8E (R90). -/
def execUnk8E (s : State) : Outcome := unknownOpcode 0x8E#8 s

/-- UNK_8F, opcode 0x8F (R90). -/
def execUnk8F (s : State) : Outcome := unknownOpcode 0x8F#8 s

/-- UNK_90, opcode 0x90 (R90). -/
def execUnk90 (s : State) : Outcome := unknownOpcode 0x90#8 s

/-- UNK_91, opcode 0x91 (R90). -/
def execUnk91 (s : State) : Outcome := unknownOpcode 0x91#8 s

/-- UNK_92, opcode 0x92 (R90). -/
def execUnk92 (s : State) : Outcome := unknownOpcode 0x92#8 s

/-- UNK_93, opcode 0x93 (R90). -/
def execUnk93 (s : State) : Outcome := unknownOpcode 0x93#8 s

/-- UNK_94, opcode 0x94 (R90). -/
def execUnk94 (s : State) : Outcome := unknownOpcode 0x94#8 s

/-- UNK_95, opcode 0x95 (R90). -/
def execUnk95 (s : State) : Outcome := unknownOpcode 0x95#8 s

/-- UNK_96, opcode 0x96 (R90). -/
def execUnk96 (s : State) : Outcome := unknownOpcode 0x96#8 s

/-- UNK_97, opcode 0x97 (R90). -/
def execUnk97 (s : State) : Outcome := unknownOpcode 0x97#8 s

/-- UNK_98, opcode 0x98 (R90). -/
def execUnk98 (s : State) : Outcome := unknownOpcode 0x98#8 s

/-- UNK_99, opcode 0x99 (R90). -/
def execUnk99 (s : State) : Outcome := unknownOpcode 0x99#8 s

/-- UNK_9A, opcode 0x9A (R90). -/
def execUnk9A (s : State) : Outcome := unknownOpcode 0x9A#8 s

/-- UNK_9B, opcode 0x9B (R90). -/
def execUnk9B (s : State) : Outcome := unknownOpcode 0x9B#8 s

/-- UNK_9C, opcode 0x9C (R90). -/
def execUnk9C (s : State) : Outcome := unknownOpcode 0x9C#8 s

/-- UNK_9D, opcode 0x9D (R90). -/
def execUnk9D (s : State) : Outcome := unknownOpcode 0x9D#8 s

/-- UNK_9E, opcode 0x9E (R90). -/
def execUnk9E (s : State) : Outcome := unknownOpcode 0x9E#8 s

/-- UNK_9F, opcode 0x9F (R90). -/
def execUnk9F (s : State) : Outcome := unknownOpcode 0x9F#8 s

/-- UNK_A0, opcode 0xA0 (R90). -/
def execUnkA0 (s : State) : Outcome := unknownOpcode 0xA0#8 s

/-- UNK_A1, opcode 0xA1 (R90). -/
def execUnkA1 (s : State) : Outcome := unknownOpcode 0xA1#8 s

/-- UNK_A2, opcode 0xA2 (R90). -/
def execUnkA2 (s : State) : Outcome := unknownOpcode 0xA2#8 s

/-- UNK_A3, opcode 0xA3 (R90). -/
def execUnkA3 (s : State) : Outcome := unknownOpcode 0xA3#8 s

/-- UNK_A4, opcode 0xA4 (R90). -/
def execUnkA4 (s : State) : Outcome := unknownOpcode 0xA4#8 s

/-- UNK_A6, opcode 0xA6 (R90). -/
def execUnkA6 (s : State) : Outcome := unknownOpcode 0xA6#8 s

/-- UNK_A7, opcode 0xA7 (R90). -/
def execUnkA7 (s : State) : Outcome := unknownOpcode 0xA7#8 s

/-- UNK_A8, opcode 0xA8 (R90). -/
def execUnkA8 (s : State) : Outcome := unknownOpcode 0xA8#8 s

/-- UNK_AA, opcode 0xAA (R90). -/
def execUnkAA (s : State) : Outcome := unknownOpcode 0xAA#8 s

/-- UNK_AB, opcode 0xAB (R90). -/
def execUnkAB (s : State) : Outcome := unknownOpcode 0xAB#8 s

/-- UNK_AC, opcode 0xAC (R90). -/
def execUnkAC (s : State) : Outcome := unknownOpcode 0xAC#8 s

/-- UNK_AD, opcode 0xAD (R90). -/
def execUnkAD (s : State) : Outcome := unknownOpcode 0xAD#8 s

/-- UNK_AE, opcode 0xAE (R90). -/
def execUnkAE (s : State) : Outcome := unknownOpcode 0xAE#8 s

/-- UNK_AF, opcode 0xAF (R90). -/
def execUnkAF (s : State) : Outcome := unknownOpcode 0xAF#8 s

/-- UNK_B0, opcode 0xB0 (R90). -/
def execUnkB0 (s : State) : Outcome := unknownOpcode 0xB0#8 s

/-- UNK_B1, opcode 0xB1 (R90). -/
def execUnkB1 (s : State) : Outcome := unknownOpcode 0xB1#8 s

/-- UNK_B2, opcode 0xB2 (R90). -/
def execUnkB2 (s : State) : Outcome := unknownOpcode 0xB2#8 s

/-- UNK_B3, opcode 0xB3 (R90). -/
def execUnkB3 (s : State) : Outcome := unknownOpcode 0xB3#8 s

/-- UNK_B4, opcode 0xB4 (R90). -/
def execUnkB4 (s : State) : Outcome := unknownOpcode 0xB4#8 s

/-- UNK_B6, opcode 0xB6 (R90). -/
def execUnkB6 (s : State) : Outcome := unknownOpcode 0xB6#8 s

/-- UNK_B7, opcode 0xB7 (R90). -/
def execUnkB7 (s : State) : Outcome := unknownOpcode 0xB7#8 s

/-- UNK_B8, opcode 0xB8 (R90). -/
def execUnkB8 (s : State) : Outcome := unknownOpcode 0xB8#8 s

/-- UNK_B9, opcode 0xB9 (R90). -/
def execUnkB9 (s : State) : Outcome := unknownOpcode 0xB9#8 s

/-- UNK_BA, opcode 0xBA (R90). -/
def execUnkBA (s : State) : Outcome := unknownOpcode 0xBA#8 s

/-- UNK_BB, opcode 0xBB (R90). -/
def execUnkBB (s : State) : Outcome := unknownOpcode 0xBB#8 s

/-- UNK_BC, opcode 0xBC (R90). -/
def execUnkBC (s : State) : Outcome := unknownOpcode 0xBC#8 s

/-- UNK_BD, opcode 0xBD (R90). -/
def execUnkBD (s : State) : Outcome := unknownOpcode 0xBD#8 s

/-- UNK_BE, opcode 0xBE (R90). -/
def execUnkBE (s : State) : Outcome := unknownOpcode 0xBE#8 s

/-- UNK_BF, opcode 0xBF (R90). -/
def execUnkBF (s : State) : Outcome := unknownOpcode 0xBF#8 s

/-- UNK_C0, opcode 0xC0 (R90). -/
def execUnkC0 (s : State) : Outcome := unknownOpcode 0xC0#8 s

/-- UNK_C1, opcode 0xC1 (R90). -/
def execUnkC1 (s : State) : Outcome := unknownOpcode 0xC1#8 s

/-- UNK_C2, opcode 0xC2 (R90). -/
def execUnkC2 (s : State) : Outcome := unknownOpcode 0xC2#8 s

/-- UNK_C3, opcode 0xC3 (R90). -/
def execUnkC3 (s : State) : Outcome := unknownOpcode 0xC3#8 s

/-- UNK_C4, opcode 0xC4 (R90). -/
def execUnkC4 (s : State) : Outcome := unknownOpcode 0xC4#8 s

/-- UNK_C5, opcode 0xC5 (R90). -/
def execUnkC5 (s : State) : Outcome := unknownOpcode 0xC5#8 s

/-- UNK_C6, opcode 0xC6 (R90). -/
def execUnkC6 (s : State) : Outcome := unknownOpcode 0xC6#8 s

/-- UNK_C7, opcode 0xC7 (R90). -/
def execUnkC7 (s : State) : Outcome := unknownOpcode 0xC7#8 s

/-- UNK_C8, opcode 0xC8 (R90). -/
def execUnkC8 (s : State) : Outcome := unknownOpcode 0xC8#8 s

/-- UNK_C9, opcode 0xC9 (R90). -/
def execUnkC9 (s : State) : Outcome := unknownOpcode 0xC9#8 s

/-- UNK_CA, opcode 0xCA (R90). -/
def execUnkCA (s : State) : Outcome := unknownOpcode 0xCA#8 s

/-- UNK_CB, opcode 0xCB (R90). -/
def execUnkCB (s : State) : Outcome := unknownOpcode 0xCB#8 s

/-- UNK_CC, opcode 0xCC (R90). -/
def execUnkCC (s : State) : Outcome := unknownOpcode 0xCC#8 s

/-- UNK_CD, opcode 0xCD (R90). -/
def execUnkCD (s : State) : Outcome := unknownOpcode 0xCD#8 s

/-- UNK_CE, opcode 0xCE (R90). -/
def execUnkCE (s : State) : Outcome := unknownOpcode 0xCE#8 s

/-- UNK_CF, opcode 0xCF (R90). -/
def execUnkCF (s : State) : Outcome := unknownOpcode 0xCF#8 s

/-- UNK_D0, opcode 0xD0 (R90). -/
def execUnkD0 (s : State) : Outcome := unknownOpcode 0xD0#8 s

/-- UNK_D1, opcode 0xD1 (R90). -/
def execUnkD1 (s : State) : Outcome := unknownOpcode 0xD1#8 s

/-- UNK_D2, opcode 0xD2 (R90). -/
def execUnkD2 (s : State) : Outcome := unknownOpcode 0xD2#8 s

/-- UNK_D3, opcode 0xD3 (R90). -/
def execUnkD3 (s : State) : Outcome := unknownOpcode 0xD3#8 s

/-- UNK_D4, opcode 0xD4 (R90). -/
def execUnkD4 (s : State) : Outcome := unknownOpcode 0xD4#8 s

/-- UNK_D5, opcode 0xD5 (R90). -/
def execUnkD5 (s : State) : Outcome := unknownOpcode 0xD5#8 s

/-- UNK_D6, opcode 0xD6 (R90). -/
def execUnkD6 (s : State) : Outcome := unknownOpcode 0xD6#8 s

/-- UNK_D7, opcode 0xD7 (R90). -/
def execUnkD7 (s : State) : Outcome := unknownOpcode 0xD7#8 s

/-- UNK_D8, opcode 0xD8 (R90). -/
def execUnkD8 (s : State) : Outcome := unknownOpcode 0xD8#8 s

/-- UNK_D9, opcode 0xD9 (R90). -/
def execUnkD9 (s : State) : Outcome := unknownOpcode 0xD9#8 s

/-- UNK_DA, opcode 0xDA (R90). -/
def execUnkDA (s : State) : Outcome := unknownOpcode 0xDA#8 s

/-- UNK_DB, opcode 0xDB (R90). -/
def execUnkDB (s : State) : Outcome := unknownOpcode 0xDB#8 s

/-- UNK_DC, opcode 0xDC (R90). -/
def execUnkDC (s : State) : Outcome := unknownOpcode 0xDC#8 s

/-- UNK_DD, opcode 0xDD (R90). -/
def execUnkDD (s : State) : Outcome := unknownOpcode 0xDD#8 s

/-- UNK_DE, opcode 0xDE (R90). -/
def execUnkDE (s : State) : Outcome := unknownOpcode 0xDE#8 s

/-- UNK_DF, opcode 0xDF (R90). -/
def execUnkDF (s : State) : Outcome := unknownOpcode 0xDF#8 s

/-- UNK_E0, opcode 0xE0 (R90). -/
def execUnkE0 (s : State) : Outcome := unknownOpcode 0xE0#8 s

/-- UNK_E1, opcode 0xE1 (R90). -/
def execUnkE1 (s : State) : Outcome := unknownOpcode 0xE1#8 s

/-- UNK_E2, opcode 0xE2 (R90). -/
def execUnkE2 (s : State) : Outcome := unknownOpcode 0xE2#8 s

/-- UNK_E3, opcode 0xE3 (R90). -/
def execUnkE3 (s : State) : Outcome := unknownOpcode 0xE3#8 s

/-- UNK_E4, opcode 0xE4 (R90). -/
def execUnkE4 (s : State) : Outcome := unknownOpcode 0xE4#8 s

/-- UNK_E5, opcode 0xE5 (R90). -/
def execUnkE5 (s : State) : Outcome := unknownOpcode 0xE5#8 s

/-- UNK_E6, opcode 0xE6 (R90). -/
def execUnkE6 (s : State) : Outcome := unknownOpcode 0xE6#8 s

/-- UNK_E7, opcode 0xE7 (R90). -/
def execUnkE7 (s : State) : Outcome := unknownOpcode 0xE7#8 s

/-- UNK_E8, opcode 0xE8 (R90). -/
def execUnkE8 (s : State) : Outcome := unknownOpcode 0xE8#8 s

/-- UNK_E9, opcode 0xE9 (R90). -/
def execUnkE9 (s : State) : Outcome := unknownOpcode 0xE9#8 s

/-- UNK_EA, opcode 0xEA (R90). -/
def execUnkEA (s : State) : Outcome := unknownOpcode 0xEA#8 s

/-- UNK_EB, opcode 0xEB (R90). -/
def execUnkEB (s : State) : Outcome := unknownOpcode 0xEB#8 s

/-- UNK_EC, opcode 0xEC (R90). -/
def execUnkEC (s : State) : Outcome := unknownOpcode 0xEC#8 s

/-- UNK_ED, opcode 0xED (R90). -/
def execUnkED (s : State) : Outcome := unknownOpcode 0xED#8 s

/-- UNK_EE, opcode 0xEE (R90). -/
def execUnkEE (s : State) : Outcome := unknownOpcode 0xEE#8 s

/-- UNK_EF, opcode 0xEF (R90). -/
def execUnkEF (s : State) : Outcome := unknownOpcode 0xEF#8 s

/-- UNK_F0, opcode 0xF0 (R90). -/
def execUnkF0 (s : State) : Outcome := unknownOpcode 0xF0#8 s

/-- UNK_F1, opcode 0xF1 (R90). -/
def execUnkF1 (s : State) : Outcome := unknownOpcode 0xF1#8 s

/-- UNK_F2, opcode 0xF2 (R90). -/
def execUnkF2 (s : State) : Outcome := unknownOpcode 0xF2#8 s

/-- UNK_F3, opcode 0xF3 (R90). -/
def execUnkF3 (s : State) : Outcome := unknownOpcode 0xF3#8 s

/-- UNK_F4, opcode 0xF4 (R90). -/
def execUnkF4 (s : State) : Outcome := unknownOpcode 0xF4#8 s

/-- UNK_F5, opcode 0xF5 (R90). -/
def execUnkF5 (s : State) : Outcome := unknownOpcode 0xF5#8 s

/-- UNK_F6, opcode 0xF6 (R90). -/
def execUnkF6 (s : State) : Outcome := unknownOpcode 0xF6#8 s

/-- UNK_F7, opcode 0xF7 (R90). -/
def execUnkF7 (s : State) : Outcome := unknownOpcode 0xF7#8 s

/-- UNK_F8, opcode 0xF8 (R90). -/
def execUnkF8 (s : State) : Outcome := unknownOpcode 0xF8#8 s

/-- UNK_F9, opcode 0xF9 (R90). -/
def execUnkF9 (s : State) : Outcome := unknownOpcode 0xF9#8 s

/-- UNK_FA, opcode 0xFA (R90). -/
def execUnkFA (s : State) : Outcome := unknownOpcode 0xFA#8 s

/-- UNK_FB, opcode 0xFB (R90). -/
def execUnkFB (s : State) : Outcome := unknownOpcode 0xFB#8 s

/-- UNK_FC, opcode 0xFC (R90). -/
def execUnkFC (s : State) : Outcome := unknownOpcode 0xFC#8 s

/-- UNK_FD, opcode 0xFD (R90). -/
def execUnkFD (s : State) : Outcome := unknownOpcode 0xFD#8 s

/-- UNK_FE, opcode 0xFE (R90). -/
def execUnkFE (s : State) : Outcome := unknownOpcode 0xFE#8 s

/-- UNK_FF, opcode 0xFF (R90). -/
def execUnkFF (s : State) : Outcome := unknownOpcode 0xFF#8 s

end Sys2Proof.Machine
end

