-- ==== Sys2Proof/Machine/HostOps.lean ====
section
/-! DEFINITION. What the host can do while no run is in progress (40_fetch_dispatch_loop.md R60, R68, R69), the state
before the first reset (70_reset_and_hazards.md R114), the read-only accessors (10_state.md R24) and the output ports
(R67). -/

namespace Sys2Proof.Machine

/-- The machine as constructed: LS = UNRESET, memory all zero, and no value in any register, flag, CB or FR, which here is
a free value that no accessor gives out (R114, 10_state.md R22). -/
def State.powerOn : State :=
  { unspecified State.reset with ls := .unreset, mem := [] }

/-- `Reset()` (70_reset_and_hazards.md R108 to R111).  The model's own fields are not the machine's and stay. -/
def hostReset (s : State) : State :=
  { State.reset with hostQueue := s.hostQueue, unkEvents := s.unkEvents, draws := s.draws }

/-- Host load: one byte of memory, no cycles; an address of 65536 or more is refused and changes nothing
(20_memory.md R36). -/
def hostLoad (addr : Nat) (v : Byte) (s : State) : State :=
  if addr < Config.memSize then s.setMem (Memory.write s.mem addr v) else s

/-- `Execute(budget)` up to its loop: CB takes the budget and the run starts; refused, with nothing changed, unless
LS = HALTED (R59, R60; on a RUNNING state, where the host has no move, notes/assumptions/24.md). -/
def hostExecute (budget : Int) (s : State) : State :=
  match s.ls with
  | .halted => (s.setCb budget).setLs .running
  | .unreset | .running | .faulted => s

/-- Single step is exactly Execute(1) (R69). -/
def hostStep (s : State) : State := hostExecute 1 s

/-- The effect of one host operation on the machine; inspection has none (R68).  No step applies one while RUNNING, and what
this function does there is the model's (notes/assumptions/24.md). -/
def applyHostOp (op : HostOp) (s : State) : State :=
  match op with
  | .reset => hostReset s
  | .load addr v => hostLoad addr v s
  | .execute budget => hostExecute budget s
  | .step => hostStep s
  | .inspect _ => s

/-! ### Inspection -/

/-- What an accessor gives back. -/
inductive InspectValue where
  | word (v : Word)
  | byte (v : Byte)
  | bit (v : Bool)
  | budget (v : Int)
  | loop (v : LoopState)
  | record (v : FaultRecord)
  deriving DecidableEq, Repr

/-- A value that exists only from the first reset on (10_state.md R22). -/
def State.onceReset (s : State) (v : InspectValue) : Option InspectValue :=
  match s.ls with
  | .unreset => none
  | .halted | .running | .faulted => some v

/-- The read-only accessors (10_state.md R24): nothing for a register, flag, CB or FR before the first reset (R22,
70_reset_and_hazards.md R114), nothing for an address outside the AddressSpace (20_memory.md R36). -/
def inspect (name : InspectName) (s : State) : Option InspectValue :=
  match name with
  | .pc => s.onceReset (.word s.pc)
  | .sp => s.onceReset (.word s.sp)
  | .a => s.onceReset (.byte s.a)
  | .x => s.onceReset (.byte s.x)
  | .y => s.onceReset (.byte s.y)
  | .c => s.onceReset (.bit s.flags.c)
  | .z => s.onceReset (.bit s.flags.z)
  | .i => s.onceReset (.bit s.flags.i)
  | .d => s.onceReset (.bit s.flags.d)
  | .b => s.onceReset (.bit s.flags.b)
  | .v => s.onceReset (.bit s.flags.v)
  | .n => s.onceReset (.bit s.flags.n)
  | .mem addr => if addr < Config.memSize then some (.byte (Memory.read s.mem addr)) else none
  | .cb => s.onceReset (.budget s.cb)
  | .ls => some (.loop s.ls)
  | .fr => s.onceReset (.record s.fr)

/-! ### Output ports -/

/-- The code of LS at its port (10_state.md R19). -/
def LoopState.code : LoopState → BitVec 2
  | .unreset => 0
  | .halted => 1
  | .running => 2
  | .faulted => 3

/-- The code of a fault kind at its port (60_exceptions.md R92). -/
def FaultKind.code : FaultKind → BitVec 2
  | .noFault => 0
  | .fetchAdvance => 1
  | .read => 2
  | .write => 3

/-- A signed counter or port of a given width holds this budget (10_state.md R18; 00_scope.md R5, BUDGET_BITS). -/
abbrev budgetHeld (bits : Nat) (cb : Int) : Prop := -(2 : Int) ^ (bits - 1) ≤ cb ∧ cb < (2 : Int) ^ (bits - 1)

/-- A budget at a port of a given width (R67; 10_state.md R18). -/
def budgetPort (bits : Nat) (cb : Int) : BitVec bits := BitVec.ofInt bits cb

/-- The outputs that show state at an instruction boundary (R67). -/
structure OutPorts where
  hostRdata : Byte
  ls : BitVec 2
  pcO : Word
  spO : Word
  aO : Byte
  xO : Byte
  yO : Byte
  cO : Bool
  zO : Bool
  iO : Bool
  dO : Bool
  bO : Bool
  vO : Bool
  nO : Bool
  cbO : BitVec Config.budgetBits
  faultKind : BitVec 2
  faultAddr : BitVec 17

/-- The outputs in state `s` with the input `host_addr` (R67).  DESIGN CHOICE (unsafe, notes/assumptions/23.md): while
LS = UNRESET, where R22 gives PC, SP, A, X, Y and the flags no value and R67 does not say what a port then carries, the
ports of the registers, the flags, CB and FR carry the values State stores, which are free values at `State.powerOn`;
`inspect` answers none there. -/
def outPorts (hostAddr : Word) (s : State) : OutPorts where
  hostRdata := Memory.read s.mem hostAddr.toNat
  ls := s.ls.code
  pcO := s.pc
  spO := s.sp
  aO := s.a
  xO := s.x
  yO := s.y
  cO := s.flags.c
  zO := s.flags.z
  iO := s.flags.i
  dO := s.flags.d
  bO := s.flags.b
  vO := s.flags.v
  nO := s.flags.n
  cbO := budgetPort Config.budgetBits s.cb
  faultKind := s.fr.kind.code
  faultAddr := s.fr.addr

end Sys2Proof.Machine
end

