-- ==== Sys2Proof/Machine/Loop.lean ====
section
/-! DEFINITION. The execution loop (40_fetch_dispatch_loop.md R59 to R65, R70): one instruction, one transition of LS, and
a whole run. -/

namespace Sys2Proof.Machine

/-- The bytes from PC on that an instruction may have, three where the address space holds them.  Reading them has no
side effect (20_memory.md R26); the fetch micro-ops of the instruction consume them one by one. -/
def fetchWindow (s : State) : List Byte := Memory.bytesFrom s.mem s.pc.toNat 3

/-- `InstrStep()`: decode the instruction at PC and run it (R61).  Where the address space ends before the instruction
does, its fetch of the byte at 0xFFFF is fatal (R54, 60_exceptions.md R93). -/
def instrStep (s : State) : Outcome :=
  match decode (fetchWindow s) with
  | .ok i _ => exec i s
  | .truncated _ => .next (raiseFatal .fetchAdvance Config.memSize s)
  | .noBytes => .next (raiseFatal .fetchAdvance Config.memSize s)

/-- One transition of the machine.  While RUNNING, the budget is tested at the boundary and either the run ends or one
instruction runs (R62); the host has no move.  Otherwise the host's next operation takes place, and with none pending the
machine idles (R59, R68, 60_exceptions.md R106). -/
def transition (s : State) : Outcome :=
  match s.ls with
  | .running => if s.cb ≤ 0 then .next (s.setLs .halted) else instrStep s
  | .unreset | .halted | .faulted =>
    match s.hostQueue with
    | [] => .next s
    | op :: rest => .next (applyHostOp op (s.setHostQueue rest))

/-- `Loop()` for at most `fuel` boundaries (R62). -/
def runLoop : Nat → State → Outcome
  | 0, s => .next s
  | fuel + 1, s =>
    match s.ls with
    | .running =>
      match transition s with
      | .next t => runLoop fuel t
      | .fault r => .fault r
      | .refused r => .refused r
    | .unreset | .halted | .faulted => .next s

/-- A whole `Execute(budget)`: a run of at most max(budget, 0) instructions and the boundary that ends it (R60, R70).
Unless LS = HALTED it is refused and changes nothing (R60).  While RUNNING the host has no such move at all (R59, R68); that
the call is refused there too, and leaves the run in progress as it is, is the model's DESIGN CHOICE
(notes/assumptions/24.md). -/
def executeRun (budget : Int) (s : State) : Outcome :=
  match s.ls with
  | .halted => runLoop (budget.toNat + 1) (hostExecute budget s)
  | .unreset | .running | .faulted => .next s

/-- What Execute returns to the host when the run has ended: the CpuState, CB, LS and FR (R60, R64). -/
structure RunResult where
  pc : Word
  sp : Word
  a : Byte
  x : Byte
  y : Byte
  flags : Flags
  cb : Int
  ls : LoopState
  fr : FaultRecord
  deriving DecidableEq, Repr

/-- The result of a run that ended in state `s` (R64). -/
def State.result (s : State) : RunResult := ⟨s.pc, s.sp, s.a, s.x, s.y, s.flags, s.cb, s.ls, s.fr⟩

/-- Lay a program's bytes where the next fetch reads them and start a run with a budget of at least 1, as a host load and
an execute do (R68, 70_reset_and_hazards.md R115; notes/assumptions/8.md). -/
def placeAndRun (bytes : List Byte) (s : State) : State :=
  { s with mem := Memory.writeBytes s.mem s.pc.toNat bytes, cb := max s.cb 1, ls := .running }

end Sys2Proof.Machine
end

