-- ==== Sys2Proof/Machine/Step.lean ====
section
/-! DEFINITION. One step of the machine, and how an instruction is placed to be the next one run. -/

namespace Sys2Proof.Machine

/-- One step: one transition of the execution loop or one operation of the host. -/
def step (s : State) : Host.Outcome State Fault Refusal := transition s

/-- `s` with the instruction of a table word stored at PC, the run in progress and the budget positive, so that the next
step fetches and runs it (notes/assumptions/8.md). -/
def State.withFetchWord (s : State) (nbits w : Nat) : State := placeAndRun (tableBytes nbits w) s

end Sys2Proof.Machine
end

