-- ==== Sys2Proof/Machine/Timing.lean ====
section
/-! DEFINITION. The micro-operation sequence of each instruction and its cycle count, the number of its micro-ops
(40_fetch_dispatch_loop.md R53, R57; 70_reset_and_hazards.md R122, R123). -/

namespace Sys2Proof.Machine

/-- The six kinds of micro-operation (R53). -/
inductive MicroOp where
  | fetch | indexAdd | readEa | writeLo | writeHi | jsrCommit
  deriving DecidableEq, Repr

/-- The whole sequence of an instruction, its opcode fetch first (R57). -/
def microOps : Instr → List MicroOp
  | .ldaImm _ => [.fetch, .fetch]
  | .ldaZp _ => [.fetch, .fetch, .readEa]
  | .ldaZpx _ => [.fetch, .fetch, .indexAdd, .readEa]
  | .jsr _ => [.fetch, .fetch, .fetch, .writeLo, .writeHi, .jsrCommit]
  | _ => [.fetch]

/-- The cycles of an instruction (R53, R122). -/
def cycles (i : Instr) : Nat := (microOps i).length

end Sys2Proof.Machine
end

