-- ==== Sys2Proof/Safety.lean ====
section
/-! DEFINITION. What claims about this machine count as safe.  FAULTED is never a successful end: a faulted run refutes
any claim that it completes (60_exceptions.md R94). -/

namespace Sys2Proof

open Machine

/-- The machine is not FAULTED. -/
def NotFaulted (s : State) : Prop := s.ls ≠ .faulted

/-- A run with this budget ends normally, HALTED, in state `t` (40_fetch_dispatch_loop.md R70). -/
def CompletesAt (budget : Int) (s t : State) : Prop := executeRun budget s = .next t ∧ t.ls = .halted

/-- The machine is in use after a reset: HALTED or RUNNING. -/
def Live (s : State) : Prop := s.ls = .halted ∨ s.ls = .running

/-- The instruction at PC runs whole from `s`, by 60_exceptions.md R93: no byte of it is the byte at 0xFFFF, and a JSR
does not start with SP = 0xFFFF. -/
def RunsWhole (i : Instr) (s : State) : Prop :=
  s.pc.toNat + lengthOf i.opcode < 0x10000 ∧ ∀ target, i = .jsr target → s.sp ≠ 0xFFFF#16

/-- What every state of the machine meets, whatever the host does: memory is in its canonical form; a HALTED machine has
used up its budget; FR is empty while the machine is in use and after a fault names the one address a fault can name
(10_state.md R20, 60_exceptions.md R92, 40_fetch_dispatch_loop.md R62). -/
structure MachineInv (s : State) : Prop where
  memory : Memory.wf s.mem = true
  budget : s.ls = .halted → s.cb ≤ 0
  record : Live s → s.fr = ⟨.noFault, 0⟩
  fault : s.ls = .faulted → s.fr = ⟨.fetchAdvance, 0x10000⟩ ∨ s.fr = ⟨.write, 0x10000⟩

/-- What R5 asks of BUDGET_BITS: it holds every budget the host is about to supply and, while the machine is in use, CB
(00_scope.md R5, 10_state.md R18). -/
structure BudgetInv (s : State) : Prop where
  supplied : ∀ budget, .execute budget ∈ s.hostQueue → budgetHeld Config.budgetBits budget
  counted : Live s → budgetHeld Config.budgetBits s.cb

/-- What every state in use since a reset meets: the registers and flags no instruction can change hold their reset
values, and SP has not gone below its reset value (70_reset_and_hazards.md R117). -/
def SinceResetInv (s : State) : Prop :=
  Live s →
    s.x = 0 ∧ s.y = 0 ∧ s.flags.c = false ∧ s.flags.i = false ∧ s.flags.d = false ∧ s.flags.b = false ∧
      s.flags.v = false ∧ 0x0100 ≤ s.sp.toNat

/-- The state after JSRs to the listed targets, one after another, each running whole. -/
def JsrChain : List Word → State → State → Prop
  | [], s, t => t = s
  | target :: rest, s, t =>
    RunsWhole (.jsr target) s ∧ ∃ u, exec (.jsr target) s = .next u ∧ JsrChain rest u t

end Sys2Proof
end

