-- ==== Sys2Proof/Certificates/Slice0/Obligations.lean ====
section
/-! DEFINITION. The statements for the provers, family by family of the spec's rules. -/

open Sys2Proof Sys2Proof.Machine

/-! ### Reset and the state before it -/

/-- 70_reset_and_hazards.md R108, R109: every piece of state a reset by the host leaves, from any state not RUNNING.  What
CB, LS and FR become is R111, the spec's own decision D19. -/
def Obligations.HostResetSetsAllState : Prop :=
  ∀ s : State, s.ls ≠ .running →
    (applyHostOp .reset s).pc = 0xFFFC ∧ (applyHostOp .reset s).sp = 0x0100 ∧ (applyHostOp .reset s).a = 0 ∧
    (applyHostOp .reset s).x = 0 ∧ (applyHostOp .reset s).y = 0 ∧
    (applyHostOp .reset s).flags = ⟨false, false, false, false, false, false, false⟩ ∧
    (∀ addr, Memory.read (applyHostOp .reset s).mem addr = 0) ∧
    (applyHostOp .reset s).cb = 0 ∧ (applyHostOp .reset s).ls = .halted ∧
    (applyHostOp .reset s).fr = ⟨.noFault, 0⟩

/-- 70_reset_and_hazards.md R108: the state after reset that the machine's interface starts from.  Its CB, LS and FR are
R111, the spec's own decision D19. -/
def Obligations.ResetStateValues : Prop :=
  State.reset.pc = 0xFFFC ∧ State.reset.sp = 0x0100 ∧ State.reset.a = 0 ∧ State.reset.x = 0 ∧ State.reset.y = 0 ∧
  State.reset.flags = ⟨false, false, false, false, false, false, false⟩ ∧
  (∀ addr, Memory.read State.reset.mem addr = 0) ∧ State.reset.cb = 0 ∧ State.reset.ls = .halted ∧
  State.reset.fr = ⟨.noFault, 0⟩

/-- 70_reset_and_hazards.md R112: two resets leave what one leaves, and what a reset leaves reads no prior state: from
any two states the machine's part (all but the model's own three fields) is the same.  That no prior state is read R112
derives itself, from R108; for CB, LS and FR it rests on R111, the spec's own decision D19.  On a RUNNING state, where
the host has no move, this is about the model's functions (notes/assumptions/24.md). -/
def Obligations.ResetIdempotent : Prop :=
  (∀ s : State, hostReset (hostReset s) = hostReset s) ∧
  ∀ s t : State, (hostReset s).result = (hostReset t).result ∧ (hostReset s).mem = (hostReset t).mem

/-- 70_reset_and_hazards.md R113: reset is accepted in UNRESET, HALTED and FAULTED; of the host's operations it is the
only way out of UNRESET and of FAULTED, and no step leaves them otherwise; during a run the host's operations wait.  That
the host's operations stand in a queue is the model's choice (notes/assumptions/5.md). -/
def Obligations.ResetAcceptedAndOnlyWayOut : Prop :=
  (∀ s : State, s.ls ≠ .running → applyHostOp .reset s = hostReset s ∧ (hostReset s).ls = .halted) ∧
  (∀ (s : State) (op : HostOp), s.ls = .unreset ∨ s.ls = .faulted → (applyHostOp op s).ls ≠ s.ls → op = .reset) ∧
  (∀ s t : State, s.ls = .unreset ∨ s.ls = .faulted → step s = .next t → t.ls ≠ s.ls →
    s.hostQueue.head? = some .reset ∧ t.ls = .halted) ∧
  (∀ s t : State, s.ls = .running → step s = .next t → t.hostQueue = s.hostQueue ∧ t.ls ≠ .unreset)

/-- 70_reset_and_hazards.md R114 and 10_state.md R22: as constructed the machine is UNRESET, its memory reads zero, and
neither a register, a flag, CB nor FR yields a value; while UNRESET, execute and step change nothing. -/
def Obligations.PowerOnHoldsNoRegisterValue : Prop :=
  State.powerOn.ls = .unreset ∧
  (∀ addr, addr < 65536 → inspect (.mem addr) State.powerOn = some (.byte 0)) ∧
  ∀ s : State, s.ls = .unreset →
    (∀ name ∈ [InspectName.pc, .sp, .a, .x, .y, .c, .z, .i, .d, .b, .v, .n, .cb, .fr], inspect name s = none) ∧
    (∀ budget, applyHostOp (.execute budget) s = s) ∧ applyHostOp .step s = s

/-- 70_reset_and_hazards.md R110: reset does not read the vector: whatever bytes the host then loads at 0xFFFC and
0xFFFD, PC is 0xFFFC and those bytes are the ones the first instruction is decoded from.  On a RUNNING state, where the
host has no move, this is about the model's functions (notes/assumptions/24.md). -/
def Obligations.ResetVectorIsNotRead : Prop :=
  ∀ (b0 b1 : Byte) (budget : Int) (s : State),
    let t := hostExecute budget (hostLoad 0xFFFD b1 (hostLoad 0xFFFC b0 (hostReset s)))
    (hostReset s).pc = 0xFFFC ∧ t.pc = 0xFFFC ∧ t.ls = .running ∧ fetchWindow t = [b0, b1, 0] ∧
    (0 < budget → step t = instrStep t)

/-! ### Memory -/

/-- 20_memory.md R26, R27: the access primitives inside and outside the AddressSpace. -/
def Obligations.AccessPrimitivesCheckRange : Prop :=
  ∀ (addr : Nat) (v : Byte) (s : State),
    (addr < 65536 → memRead addr s = .done (Memory.read s.mem addr) s ∧
      memWrite addr v s = .done () { s with mem := Memory.write s.mem addr v }) ∧
    (65536 ≤ addr → memRead addr s = .fatal .read addr ∧ memWrite addr v s = .fatal .write addr)

/-- 20_memory.md R27, R37: a read gives the most recent write to its address, and a write changes no other address. -/
def Obligations.ReadAfterWrite : Prop :=
  ∀ (m : List Host.Cell) (a : Nat) (v : Byte), Memory.wf m = true →
    Memory.read (Memory.write m a v) a = v ∧
    ∀ b, b ≠ a → Memory.read (Memory.write m a v) b = Memory.read m b

/-! ### Encoding -/

/-- 30_encoding.md R43 to R47: what the encoder lays down, the decoder reads back, whatever follows. -/
def Obligations.DecodeOfEncode : Prop :=
  ∀ (i : Instr) (rest : List Byte), i.wellFormed = true → decode (encode i ++ rest) = .ok i rest

/-- 30_encoding.md R43 to R47: what the decoder accepts is the encoding of what it answers; no byte is dropped. -/
def Obligations.EncodeOfDecode : Prop :=
  ∀ (bytes rest : List Byte) (i : Instr), decode bytes = .ok i rest → bytes = encode i ++ rest

/-- 30_encoding.md R46: the opcode alone decides how many bytes the decoder takes, and it rejects exactly a byte string
that ends before that. -/
def Obligations.OpcodeAloneDecidesLength : Prop :=
  ∀ (op : Byte) (operands : List Byte),
    let n := if op = 0xA9#8 ∨ op = 0xA5#8 ∨ op = 0xB5#8 then 1 else if op = 0x20#8 then 2 else 0
    (n ≤ operands.length → ∃ i, i.opcode = op ∧ decode (op :: operands) = .ok i (operands.drop n)) ∧
    (operands.length < n → decode (op :: operands) = .truncated op)

/-- 30_encoding.md R47 ("Every other cell is UNK"): the complete opcode map, with the operands of the four defined values
in their formats (R44), the JSR target little-endian (R45).  Byte strings that end earlier are OpcodeAloneDecidesLength's
and DecodeOfEncode's. -/
def Obligations.OpcodeMapComplete : Prop :=
  ∀ (op b1 b2 : Byte) (rest : List Byte),
    if op = 0xA9#8 then decode (op :: b1 :: b2 :: rest) = .ok (.ldaImm b1) (b2 :: rest)
    else if op = 0xA5#8 then decode (op :: b1 :: b2 :: rest) = .ok (.ldaZp b1) (b2 :: rest)
    else if op = 0xB5#8 then decode (op :: b1 :: b2 :: rest) = .ok (.ldaZpx b1) (b2 :: rest)
    else if op = 0x20#8 then decode (op :: b1 :: b2 :: rest) = .ok (.jsr (BitVec.ofNat 16 (b2.toNat * 256 + b1.toNat))) rest
    else ∃ i, i.isUnknown = true ∧ i.opcode = op ∧ decode (op :: b1 :: b2 :: rest) = .ok i (b1 :: b2 :: rest)

/-- 30_encoding.md R44, R47: words of each format written out by hand. -/
def Obligations.WrittenOutWordsDecode : Prop :=
  decode [0b10101001#8, 0b10000100#8] = .ok (.ldaImm 0x84) [] ∧
  decode [0b10100101#8, 0b00010000#8] = .ok (.ldaZp 0x10) [] ∧
  decode [0b10110101#8, 0b11110000#8] = .ok (.ldaZpx 0xF0) [] ∧
  decode [0b00100000#8, 0b01111000#8, 0b01010110#8] = .ok (.jsr 0x5678) [] ∧
  decode [0b11111111#8] = .ok .unkFF [] ∧
  decode [0b10101101#8] = .ok .unkAD []

/-! ### Fetch unit and budget -/

/-- 40_fetch_dispatch_loop.md R52: the debit is exact, with no clamp, and touches nothing else. -/
def Obligations.DebitIsExact : Prop :=
  ∀ (s : State) (n : Int), s.debit n = { s with cb := s.cb - n }

/-- 40_fetch_dispatch_loop.md R54: FetchByte. -/
def Obligations.FetchByteRule : Prop :=
  ∀ s : State,
    (s.pc ≠ 0xFFFF#16 →
      fetchByte s = .done (Memory.read s.mem s.pc.toNat) { s with pc := s.pc + 1, cb := s.cb - 1 }) ∧
    (s.pc = 0xFFFF#16 → fetchByte s = .fatal .fetchAdvance 0x10000)

/-- 40_fetch_dispatch_loop.md R55: FetchWord, little-endian, and its two ways to fault. -/
def Obligations.FetchWordRule : Prop :=
  ∀ s : State,
    (s.pc.toNat < 0xFFFE →
      fetchWord s =
        .done
          (BitVec.ofNat 16
            ((Memory.read s.mem (s.pc.toNat + 1)).toNat * 256 + (Memory.read s.mem s.pc.toNat).toNat))
          { s with pc := s.pc + 2, cb := s.cb - 2 }) ∧
    (s.pc = 0xFFFF#16 ∨ s.pc = 0xFFFE#16 → fetchWord s = .fatal .fetchAdvance 0x10000)

/-- 40_fetch_dispatch_loop.md R56, 30_encoding.md R45: the operand the decoder reads is the one the fetch unit fetches
after the opcode. -/
def Obligations.FetchedOperandIsDecodedOperand : Prop :=
  ∀ (s : State) (rest : List Byte),
    (∀ v, decode (fetchWindow s) = .ok (.ldaImm v) rest → s.pc.toNat < 0xFFFE →
      ∃ op t u, fetchByte s = .done op t ∧ op = 0xA9#8 ∧ fetchByte t = .done v u) ∧
    (∀ zp, decode (fetchWindow s) = .ok (.ldaZp zp) rest → s.pc.toNat < 0xFFFE →
      ∃ op t u, fetchByte s = .done op t ∧ op = 0xA5#8 ∧ fetchByte t = .done zp u) ∧
    (∀ zp, decode (fetchWindow s) = .ok (.ldaZpx zp) rest → s.pc.toNat < 0xFFFE →
      ∃ op t u, fetchByte s = .done op t ∧ op = 0xB5#8 ∧ fetchByte t = .done zp u) ∧
    (∀ target, decode (fetchWindow s) = .ok (.jsr target) rest → s.pc.toNat < 0xFFFD →
      ∃ op t u, fetchByte s = .done op t ∧ op = 0x20#8 ∧ fetchWord t = .done target u)

/-! ### The execution loop -/

/-- 40_fetch_dispatch_loop.md R61: a running machine with budget left runs the instruction its bytes at PC decode to;
those bytes are the ones in memory from PC on, as many as the address space has. -/
def Obligations.StepRunsDecodedInstruction : Prop :=
  (∀ (s : State) (i : Instr) (rest : List Byte), s.ls = .running → 0 < s.cb → i.wellFormed = true →
    decode (fetchWindow s) = .ok i rest → step s = exec i s) ∧
  (∀ s : State, s.pc.toNat < 0xFFFE →
    fetchWindow s =
      [Memory.read s.mem s.pc.toNat, Memory.read s.mem (s.pc.toNat + 1), Memory.read s.mem (s.pc.toNat + 2)]) ∧
  (∀ s : State, s.pc = 0xFFFE#16 → fetchWindow s = [Memory.read s.mem 0xFFFE, Memory.read s.mem 0xFFFF]) ∧
  (∀ s : State, s.pc = 0xFFFF#16 → fetchWindow s = [Memory.read s.mem 0xFFFF])

/-- 40_fetch_dispatch_loop.md R54, 60_exceptions.md R93: an instruction the end of memory cuts short faults in its
fetch. -/
def Obligations.StepPastEndOfMemoryFaults : Prop :=
  ∀ (s : State) (op : Byte), s.ls = .running → 0 < s.cb → decode (fetchWindow s) = .truncated op →
    ∃ t, step s = .next t ∧ t.ls = .faulted ∧ t.fr = ⟨.fetchAdvance, 0x10000⟩

/-- 40_fetch_dispatch_loop.md R62: the budget is tested at the boundary, and only there. -/
def Obligations.BudgetTestedAtBoundary : Prop :=
  ∀ s : State, s.ls = .running →
    (s.cb ≤ 0 → step s = .next { s with ls := .halted }) ∧ (0 < s.cb → step s = instrStep s)

/-- 93_implementation_defined.md ("no behaviour of the core is stuck"): every state has a next state. -/
def Obligations.EveryStepAnswersNext : Prop :=
  ∀ s : State, ∃ t, step s = .next t

/-- How the host acts in this model (the model's choice, notes/assumptions/5.md, over 40_fetch_dispatch_loop.md section 6
and 60_exceptions.md section 4): a machine that is not RUNNING performs the host's next pending operation, and with none
pending it stays exactly as it is. -/
def Obligations.StepServesHostWhenNotRunning : Prop :=
  ∀ s : State, s.ls ≠ .running →
    (s.hostQueue = [] → step s = .next s) ∧
    ∀ op q, s.hostQueue = op :: q → step s = .next (applyHostOp op { s with hostQueue := q })

/-- 40_fetch_dispatch_loop.md R65: execute, accepted when HALTED, takes the host's budget and starts the run; it does not
reset PC, SP, A, X, Y, the flags or memory, and it continues at the PC the machine halted at. -/
def Obligations.ExecuteKeepsState : Prop :=
  ∀ (s : State) (budget : Int), s.ls = .halted →
    applyHostOp (.execute budget) s = { s with cb := budget, ls := .running } ∧
    executeRun budget s = runLoop (budget.toNat + 1) { s with cb := budget, ls := .running }

/-- 40_fetch_dispatch_loop.md R59, R60: execute, step and a whole run are refused, with nothing changed, while UNRESET or
FAULTED.  While RUNNING R59 gives the host no such move; that they are refused there too is the model's choice
(notes/assumptions/24.md). -/
def Obligations.ExecuteAndStepRefused : Prop :=
  ∀ s : State, s.ls ≠ .halted →
    (∀ budget, applyHostOp (.execute budget) s = s ∧ executeRun budget s = .next s) ∧ applyHostOp .step s = s

/-- 40_fetch_dispatch_loop.md R69 (the spec's decision D23): the host's step is Execute(1): one instruction, then HALTED
(or FAULTED), with CB in [-5, 0] and, for an instruction that runs whole, CB = 1 - cost.  On a RUNNING state, where the
host has no move, this is about the model's functions (notes/assumptions/24.md). -/
def Obligations.SingleStepIsExecuteOne : Prop :=
  (∀ s : State, applyHostOp .step s = applyHostOp (.execute 1) s) ∧
  ∀ s : State, s.ls = .halted →
    ∃ t, instrStep { s with cb := 1, ls := .running } = .next t ∧
      executeRun 1 s = .next (if t.ls = .faulted then t else { t with ls := .halted }) ∧
      (t.ls ≠ .faulted → -5 ≤ t.cb ∧ t.cb ≤ 0) ∧
      ∀ i rest, decode (fetchWindow s) = .ok i rest → RunsWhole i s → t.cb = 1 - (cycles i : Int)

/-- 20_memory.md R36: host load writes one byte, which the accessor then shows, and debits nothing; an address of 65536
or more is refused and changes nothing; during a run nothing is loaded (a pending load waits, notes/assumptions/5.md).
On a RUNNING state, where the host has no move, this is about the model's functions (notes/assumptions/24.md). -/
def Obligations.HostLoadRule : Prop :=
  (∀ (s : State) (addr : Nat) (v : Byte), addr < 65536 →
    applyHostOp (.load addr v) s = { s with mem := Memory.write s.mem addr v } ∧
    (Memory.wf s.mem = true → inspect (.mem addr) (applyHostOp (.load addr v) s) = some (.byte v))) ∧
  (∀ (s : State) (addr : Nat) (v : Byte), 65536 ≤ addr →
    applyHostOp (.load addr v) s = s ∧ inspect (.mem addr) s = none) ∧
  ∀ (s t : State) (addr : Nat) (v : Byte) (q : List HostOp), s.ls = .running → s.hostQueue = .load addr v :: q →
    step s = .next t → t.hostQueue = .load addr v :: q

/-- 40_fetch_dispatch_loop.md R68 (the spec's decision D11): the host has no move while a run is in progress; in this
model its pending operations, whatever they are, stay pending (notes/assumptions/5.md). -/
def Obligations.HostCannotActDuringRun : Prop :=
  ∀ s t : State, s.ls = .running → step s = .next t → t.hostQueue = s.hostQueue

/-- 40_fetch_dispatch_loop.md R70: every run with a finite budget ends, HALTED with the budget used up or FAULTED, and a
budget of 0 or less ends at once with nothing changed but CB. -/
def Obligations.EveryRunEnds : Prop :=
  ∀ (budget : Int) (s : State), s.ls = .halted →
    (∃ t, executeRun budget s = .next t ∧ ((t.ls = .halted ∧ t.cb ≤ 0) ∨ t.ls = .faulted)) ∧
    (budget ≤ 0 → executeRun budget s = .next { s with cb := budget })

/-- 40_fetch_dispatch_loop.md R63: at every boundary of a run with a positive budget CB is at least -5 (unless the run
faulted); a run that ends HALTED ends with CB in [-5, 0], or with its starting budget where that is 0 or less; no
instruction starts with CB below 1; an instruction of cost k, at most 6, that runs whole takes CB from c to c - k. -/
def Obligations.OverrunBound : Prop :=
  (∀ (budget : Int) (fuel : Nat) (s t : State), s.ls = .halted → 0 < budget →
    runLoop fuel (hostExecute budget s) = .next t → t.ls ≠ .faulted → -5 ≤ t.cb) ∧
  (∀ (budget : Int) (s t : State), s.ls = .halted → CompletesAt budget s t →
    (0 < budget → -5 ≤ t.cb ∧ t.cb ≤ 0) ∧ (budget ≤ 0 → t.cb = budget)) ∧
  (∀ s : State, s.ls = .running → s.cb < 1 → step s = .next { s with ls := .halted }) ∧
  ∀ (i : Instr) (s : State), RunsWhole i s →
    cycles i ≤ 6 ∧ ∃ t, exec i s = .next t ∧ t.cb = s.cb - (cycles i : Int)

/-! ### The fault -/

/-- 60_exceptions.md R94 (the spec's decision D7): a FatalPrecondition ends the instruction whatever micro-ops follow,
records FR and sets LS to FAULTED; the loop dispatches nothing from there. -/
def Obligations.FatalPreconditionEndsRun : Prop :=
  (∀ (kind : FaultKind) (addr : Nat) (later : Unit → State → Micro Unit) (s : State),
    ∃ t, finish s ((Micro.fatal kind addr).bind later) = .next t ∧ t.ls = .faulted ∧
      t.fr = ⟨kind, BitVec.ofNat 17 addr⟩) ∧
  ∀ (fuel : Nat) (s : State), s.ls = .faulted → runLoop fuel s = .next s

/-- 60_exceptions.md R93: which instructions raise which fault, and when; otherwise the run goes on and FR is as it
was. -/
def Obligations.WhichInstructionsFault : Prop :=
  ∀ (i : Instr) (s : State), ∃ t, exec i s = .next t ∧
    (0x10000 ≤ s.pc.toNat + (encode i).length → t.ls = .faulted ∧ t.fr = ⟨.fetchAdvance, 0x10000⟩) ∧
    (s.pc.toNat + (encode i).length < 0x10000 → (∃ target, i = .jsr target) → s.sp = 0xFFFF#16 →
      t.ls = .faulted ∧ t.fr = ⟨.write, 0x10000⟩) ∧
    (RunsWhole i s → t.ls = s.ls ∧ t.fr = s.fr)

/-! ### Flag generator and address adder -/

/-- 41_addressing_alu.md R78: Z and N from the value, nothing else; never both (the spec derives that itself: "v == 0
implies v[7] = 0"); every load ends so. -/
def Obligations.SetNZRule : Prop :=
  (∀ (v : Byte) (s : State),
    setNZ v s = { s with flags := { s.flags with z := decide (v = 0), n := v.getLsbD 7 } } ∧
    ¬ ((setNZ v s).flags.z = true ∧ (setNZ v s).flags.n = true)) ∧
  ∀ (i : Instr) (s : State), (∃ b, i = .ldaImm b ∨ i = .ldaZp b ∨ i = .ldaZpx b) → RunsWhole i s →
    ∃ t, exec i s = .next t ∧ t.flags = { s.flags with z := decide (t.a = 0), n := t.a.getLsbD 7 }

/-- 41_addressing_alu.md R79: C, I, D, B and V are written by no instruction, JSR and the unknown opcodes write no flag,
and the five stay 0 from step to step once they are, in use, until the next reset. -/
def Obligations.InertFlags : Prop :=
  (∀ (i : Instr) (s : State), RunsWhole i s → ∃ t, exec i s = .next t ∧
    t.flags.c = s.flags.c ∧ t.flags.i = s.flags.i ∧ t.flags.d = s.flags.d ∧ t.flags.b = s.flags.b ∧
    t.flags.v = s.flags.v ∧
    ((∃ target, i = .jsr target) ∨ i.isUnknown = true → t.flags = s.flags)) ∧
  ∀ s t : State, Live s → Live t → step s = .next t →
    s.flags.c = false → s.flags.i = false → s.flags.d = false → s.flags.b = false → s.flags.v = false →
    t.flags.c = false ∧ t.flags.i = false ∧ t.flags.d = false ∧ t.flags.b = false ∧ t.flags.v = false

/-- 41_addressing_alu.md R74, R75, R77: the address adder, exact by default, modulo 256 under ZPX_WRAP; the settings
differ exactly where the sum reaches 256; this hardware takes the default. -/
def Obligations.AddressAdderRule : Prop :=
  Config.zpxWrap = false ∧
  ∀ zp x : Byte,
    agu false zp x = zp.toNat + x.toNat ∧ agu true zp x = (zp.toNat + x.toNat) % 256 ∧
    agu false zp x ≤ 0x1FE ∧ agu true zp x ≤ 0xFF ∧
    (agu false zp x ≠ agu true zp x ↔ 256 ≤ zp.toNat + x.toNat)

/-- 41_addressing_alu.md R76: no effective address reaches 65536, so a load's data read never faults, and a load faults
only through its fetches. -/
def Obligations.EffectiveAddressInRange : Prop :=
  (∀ (wrap : Bool) (zp x : Byte) (s : State),
    zp.toNat ≤ 0xFF ∧ agu wrap zp x ≤ 0x1FE ∧
    (∃ v t, readEa zp.toNat s = .done v t) ∧ ∃ v t, readEa (agu wrap zp x) s = .done v t) ∧
  ∀ (i : Instr) (s t : State), (∃ b, i = .ldaImm b ∨ i = .ldaZp b ∨ i = .ldaZpx b) → s.ls ≠ .faulted →
    exec i s = .next t → t.ls = .faulted → 0xFFFE ≤ s.pc.toNat ∧ t.fr = ⟨.fetchAdvance, 0x10000⟩

/-! ### The instructions: result, completion and faults -/

/-- 42_load.md R84: LDA #imm.  The fault at 0xFFFE and 0xFFFF is 60_exceptions.md R92 and R94: after it only LS and FR are
defined, by the spec's own decisions D7 and D8 (notes/assumptions/2.md). -/
def Obligations.LdaImmediateResult : Prop :=
  ∀ (v : Byte) (s : State),
    encode (.ldaImm v) = [0xA9#8, v] ∧
    (s.pc.toNat < 0xFFFE →
      exec (.ldaImm v) s = .next { s with
        pc := s.pc + 2, a := v, flags := { s.flags with z := decide (v = 0), n := v.getLsbD 7 }, cb := s.cb - 2 }) ∧
    (s.pc = 0xFFFE#16 ∨ s.pc = 0xFFFF#16 →
      ∃ t, exec (.ldaImm v) s = .next t ∧ t.ls = .faulted ∧ t.fr = ⟨.fetchAdvance, 0x10000⟩)

/-- 42_load.md R85: LDA zp.  The fault at 0xFFFE and 0xFFFF is 60_exceptions.md R92 and R94: after it only LS and FR are
defined, by the spec's own decisions D7 and D8 (notes/assumptions/2.md). -/
def Obligations.LdaZeroPageResult : Prop :=
  ∀ (zp : Byte) (s : State),
    encode (.ldaZp zp) = [0xA5#8, zp] ∧
    (s.pc.toNat < 0xFFFE →
      exec (.ldaZp zp) s = .next { s with
        pc := s.pc + 2, a := Memory.read s.mem zp.toNat,
        flags := { s.flags with
          z := decide (Memory.read s.mem zp.toNat = 0), n := (Memory.read s.mem zp.toNat).getLsbD 7 },
        cb := s.cb - 3 }) ∧
    (s.pc = 0xFFFE#16 ∨ s.pc = 0xFFFF#16 →
      ∃ t, exec (.ldaZp zp) s = .next t ∧ t.ls = .faulted ∧ t.fr = ⟨.fetchAdvance, 0x10000⟩)

/-- 42_load.md R86: LDA zp,X under either setting of ZPX_WRAP; this hardware's instruction takes the unmasked one, the
spec's decision D1 (notes/assumptions/9.md). -/
def Obligations.LdaZeroPageXResult : Prop :=
  ∀ (wrap : Bool) (zp : Byte) (s : State),
    let ea := if wrap then (zp.toNat + s.x.toNat) % 256 else zp.toNat + s.x.toNat
    encode (.ldaZpx zp) = [0xB5#8, zp] ∧
    exec (.ldaZpx zp) s = loadZpx false zp s ∧
    (s.pc.toNat < 0xFFFE →
      loadZpx wrap zp s = .next { s with
        pc := s.pc + 2, a := Memory.read s.mem ea,
        flags := { s.flags with z := decide (Memory.read s.mem ea = 0), n := (Memory.read s.mem ea).getLsbD 7 },
        cb := s.cb - 4 }) ∧
    (s.pc = 0xFFFE#16 ∨ s.pc = 0xFFFF#16 →
      ∃ t, loadZpx wrap zp s = .next t ∧ t.ls = .faulted ∧ t.fr = ⟨.fetchAdvance, 0x10000⟩)

/-- 43_subroutine.md R87: JSR abs.  The return address is PC + 2 of the opcode's PC, its low byte goes to SP and its high
byte to SP + 1, the spec's decisions D2 and D3 (notes/assumptions/12.md). -/
def Obligations.JsrResult : Prop :=
  ∀ (target : Word) (s : State),
    encode (.jsr target) = [0x20#8, target.setWidth 8, (target >>> 8).setWidth 8] ∧
    (s.pc.toNat < 0xFFFD → s.sp ≠ 0xFFFF#16 →
      exec (.jsr target) s = .next { s with
        mem := Memory.write (Memory.write s.mem s.sp.toNat ((s.pc + 2).setWidth 8)) (s.sp.toNat + 1)
          (((s.pc + 2) >>> 8).setWidth 8),
        sp := s.sp + 1, pc := target, cb := s.cb - 6 }) ∧
    (s.pc = 0xFFFD#16 ∨ s.pc = 0xFFFE#16 ∨ s.pc = 0xFFFF#16 →
      ∃ t, exec (.jsr target) s = .next t ∧ t.ls = .faulted ∧ t.fr = ⟨.fetchAdvance, 0x10000⟩) ∧
    (s.pc.toNat < 0xFFFD → s.sp = 0xFFFF#16 →
      ∃ t, exec (.jsr target) s = .next t ∧ t.ls = .faulted ∧ t.fr = ⟨.write, 0x10000⟩)

/-- 44_unknown_opcode.md R90: each of the 252 unknown opcodes, unk00 to unkFF, is one byte, moves PC by one, debits one
cycle and emits its event; nothing else changes; at 0xFFFF its opcode fetch faults.  That the event's trace is kept in
State is the model's choice (notes/assumptions/7.md), which 40_fetch_dispatch_loop.md R66 allows.  The fault is
60_exceptions.md R92 and R94: after it only LS and FR are defined, by the spec's own decisions D7 and D8
(notes/assumptions/2.md). -/
def Obligations.UnknownOpcodeResult : Prop :=
  ∀ (i : Instr) (s : State), i.isUnknown = true →
    encode i = [i.opcode] ∧ i.opcode ≠ 0x20#8 ∧ i.opcode ≠ 0xA5#8 ∧ i.opcode ≠ 0xA9#8 ∧ i.opcode ≠ 0xB5#8 ∧
    (s.pc ≠ 0xFFFF#16 →
      exec i s = .next { s with
        pc := s.pc + 1, cb := s.cb - 1, unkEvents := ⟨i.opcode, s.pc⟩ :: s.unkEvents }) ∧
    (s.pc = 0xFFFF#16 →
      ∃ t, exec i s = .next t ∧ t.ls = .faulted ∧ t.fr = ⟨.fetchAdvance, 0x10000⟩)

/-- 70_reset_and_hazards.md R122: the fixed cost of each instruction, whatever its operand and the state. -/
def Obligations.CycleCosts : Prop :=
  ∀ (i : Instr) (s : State), RunsWhole i s → ∃ t, exec i s = .next t ∧
    ((∃ v, i = .ldaImm v) → t.cb = s.cb - 2) ∧ ((∃ zp, i = .ldaZp zp) → t.cb = s.cb - 3) ∧
    ((∃ zp, i = .ldaZpx zp) → t.cb = s.cb - 4) ∧ ((∃ target, i = .jsr target) → t.cb = s.cb - 6) ∧
    (i.isUnknown = true → t.cb = s.cb - 1)

/-- 40_fetch_dispatch_loop.md R53, R57: an instruction's cost is the number of its micro-ops, the sequence the spec
lists. -/
def Obligations.CostIsNumberOfMicroOps : Prop :=
  (∀ v, microOps (.ldaImm v) = [.fetch, .fetch]) ∧ (∀ zp, microOps (.ldaZp zp) = [.fetch, .fetch, .readEa]) ∧
  (∀ zp, microOps (.ldaZpx zp) = [.fetch, .fetch, .indexAdd, .readEa]) ∧
  (∀ target, microOps (.jsr target) = [.fetch, .fetch, .fetch, .writeLo, .writeHi, .jsrCommit]) ∧
  (∀ i, i.isUnknown = true → microOps i = [.fetch]) ∧
  ∀ (i : Instr) (s : State), RunsWhole i s →
    ∃ t, exec i s = .next t ∧ t.cb = s.cb - ((microOps i).length : Int)

/-- 44_unknown_opcode.md R90, 40_fetch_dispatch_loop.md R66: the event of an unknown opcode carries its opcode and
address; a defined instruction emits none.  Keeping the trace in State is the model's choice
(notes/assumptions/7.md). -/
def Obligations.UnknownOpcodeEvent : Prop :=
  ∀ (i : Instr) (s : State), RunsWhole i s → ∃ t, exec i s = .next t ∧
    t.unkEvents = if i.isUnknown then ⟨i.opcode, s.pc⟩ :: s.unkEvents else s.unkEvents

/-! ### Frames -/

/-- 42_load.md (loads write only A, Z, N, PC and CB): the frame of LDA #imm, LDA zp and LDA zp,X. -/
def Obligations.LoadFrame : Prop :=
  ∀ (i : Instr) (s t : State), (∃ b, i = .ldaImm b ∨ i = .ldaZp b ∨ i = .ldaZpx b) → RunsWhole i s →
    exec i s = .next t →
    t.sp = s.sp ∧ t.x = s.x ∧ t.y = s.y ∧
    t.flags.c = s.flags.c ∧ t.flags.i = s.flags.i ∧ t.flags.d = s.flags.d ∧ t.flags.b = s.flags.b ∧
    t.flags.v = s.flags.v ∧ (∀ addr, Memory.read t.mem addr = Memory.read s.mem addr) ∧
    t.ls = s.ls ∧ t.fr = s.fr ∧ t.hostQueue = s.hostQueue ∧ t.unkEvents = s.unkEvents ∧ t.draws = s.draws

/-- 43_subroutine.md R87: the frame of JSR: PC and SP, and the bytes at SP and SP + 1 as SP was before. -/
def Obligations.JsrFrame : Prop :=
  ∀ (target : Word) (s t : State), RunsWhole (.jsr target) s → exec (.jsr target) s = .next t →
    t.a = s.a ∧ t.x = s.x ∧ t.y = s.y ∧ t.flags = s.flags ∧
    (∀ addr, addr ≠ s.sp.toNat → addr ≠ s.sp.toNat + 1 → Memory.read t.mem addr = Memory.read s.mem addr) ∧
    t.ls = s.ls ∧ t.fr = s.fr ∧ t.hostQueue = s.hostQueue ∧ t.unkEvents = s.unkEvents ∧ t.draws = s.draws

/-- 44_unknown_opcode.md R90: the frame of the 252 unknown opcodes: PC and CB (and the event). -/
def Obligations.UnknownOpcodeFrame : Prop :=
  ∀ (i : Instr) (s t : State), i.isUnknown = true → RunsWhole i s → exec i s = .next t →
    t.sp = s.sp ∧ t.a = s.a ∧ t.x = s.x ∧ t.y = s.y ∧ t.flags = s.flags ∧
    (∀ addr, Memory.read t.mem addr = Memory.read s.mem addr) ∧
    t.ls = s.ls ∧ t.fr = s.fr ∧ t.hostQueue = s.hostQueue ∧ t.draws = s.draws

/-- 10_state.md R14, R15: no instruction writes X or Y. -/
def Obligations.NoInstructionWritesIndexRegisters : Prop :=
  ∀ (i : Instr) (s : State), RunsWhole i s → ∃ t, exec i s = .next t ∧ t.x = s.x ∧ t.y = s.y

/-- 20_memory.md R27 (JSR is the only instruction that writes memory). -/
def Obligations.OnlyJsrWritesMemory : Prop :=
  ∀ (i : Instr) (s t : State), RunsWhole i s → exec i s = .next t → t.mem ≠ s.mem → ∃ target, i = .jsr target

/-! ### The stack of JSR, fetch coherence -/

/-- 20_memory.md R30, 41_addressing_alu.md R81: a JSR at address p leaves p + 2, little-endian, at SP; p + 2 does not
wrap. -/
def Obligations.ReturnAddressIsLittleEndian : Prop :=
  ∀ (target : Word) (s : State), Memory.wf s.mem = true → RunsWhole (.jsr target) s →
    ∃ t, exec (.jsr target) s = .next t ∧
      (Memory.read t.mem s.sp.toNat).toNat + 256 * (Memory.read t.mem (s.sp.toNat + 1)).toNat = s.pc.toNat + 2 ∧
      t.sp.toNat = s.sp.toNat + 1

/-- 43_subroutine.md R88: the stack after n nested calls.  Call number k has the return address r_k: two past where that
JSR stands, which is where the machine starts for the first and the target of the call before for the others. -/
def Obligations.NestedCallsStackLayout : Prop :=
  (∀ (targets : List Word) (s t : State), Memory.wf s.mem = true → JsrChain targets s t →
    let r := fun k : Nat => (s.pc :: targets).getD k 0 + 2
    (∀ k, k < targets.length → Memory.read t.mem (s.sp.toNat + k) = (r k).setWidth 8) ∧
    (0 < targets.length →
      Memory.read t.mem (s.sp.toNat + targets.length) = (r (targets.length - 1) >>> 8).setWidth 8) ∧
    t.sp.toNat = s.sp.toNat + targets.length) ∧
  ∀ (targets : List Word) (s : State), s.pc.toNat < 0xFFFD → (∀ w ∈ targets, w.toNat < 0xFFFD) →
    s.sp.toNat + targets.length ≤ 0xFFFF → ∃ t, JsrChain targets s t

/-- 20_memory.md R40: a JSR to the address SP holds leaves its return address where the next fetch reads it. -/
def Obligations.FetchSeesJsrWrites : Prop :=
  ∀ s : State, Memory.wf s.mem = true → RunsWhole (.jsr s.sp) s →
    ∃ t, exec (.jsr s.sp) s = .next t ∧
      (fetchWindow t).take 2 = [(s.pc + 2).setWidth 8, ((s.pc + 2) >>> 8).setWidth 8]

/-- 70_reset_and_hazards.md R117, 41_addressing_alu.md R75: while X is 0, zero-page-X acts as zero-page at one cycle more,
and ZPX_WRAP cannot be observed. -/
def Obligations.ZeroPageXWithXZero : Prop :=
  ∀ (zp : Byte) (s : State), s.x = 0 → s.pc.toNat < 0xFFFE →
    ∃ t, exec (.ldaZp zp) s = .next t ∧ exec (.ldaZpx zp) s = .next { t with cb := t.cb - 1 } ∧
      loadZpx true zp s = loadZpx false zp s

/-! ### Invariants -/

/-- MachineInv is kept by every step, from every state that meets it, and so is BudgetInv: a counter of BUDGET_BITS that
holds the host's budgets and -5 holds CB at every boundary (00_scope.md R5, 10_state.md R18). -/
def Obligations.MachineInvariantKept : Prop :=
  (∀ s t : State, MachineInv s → step s = .next t → MachineInv t) ∧
  ∀ s t : State, BudgetInv s → step s = .next t → BudgetInv t

/-- MachineInv and BudgetInv hold at reset and as the machine is constructed (70_reset_and_hazards.md R108, R114).  The
CB, LS and FR of State.reset are R111, the spec's own decision D19.  That no budget is pending in either state is the model's
choice: the queue of host operations is empty there (notes/assumptions/5.md). -/
def Obligations.MachineInvariantAtReset : Prop :=
  (MachineInv State.reset ∧ MachineInv State.powerOn) ∧ BudgetInv State.reset ∧ BudgetInv State.powerOn

/-- 70_reset_and_hazards.md R117: the values no instruction can change, and SP not below its reset value, are kept by
every step. -/
def Obligations.SinceResetInvariantKept : Prop :=
  ∀ s t : State, SinceResetInv s → step s = .next t → SinceResetInv t

/-- The invariant of R117 holds at reset and, before the first reset, as the machine is constructed. -/
def Obligations.SinceResetInvariantAtReset : Prop :=
  SinceResetInv State.reset ∧ SinceResetInv State.powerOn

/-- 70_reset_and_hazards.md R117 (SP only increases): between states in use, every step but a reset leaves SP or raises
it by one. -/
def Obligations.StackPointerNeverDecreases : Prop :=
  ∀ s t : State, Live s → Live t → ¬ (s.ls = .halted ∧ s.hostQueue.head? = some .reset) → step s = .next t →
    t.sp = s.sp ∨ t.sp.toNat = s.sp.toNat + 1

/-! ### What the host sees -/

/-- 10_state.md R24: from the first reset on each accessor gives the state's value; memory is readable in its range and
LS always. -/
def Obligations.AccessorsShowState : Prop :=
  ∀ s : State, s.ls ≠ .unreset →
    inspect .pc s = some (.word s.pc) ∧ inspect .sp s = some (.word s.sp) ∧ inspect .a s = some (.byte s.a) ∧
    inspect .x s = some (.byte s.x) ∧ inspect .y s = some (.byte s.y) ∧
    inspect .c s = some (.bit s.flags.c) ∧ inspect .z s = some (.bit s.flags.z) ∧
    inspect .i s = some (.bit s.flags.i) ∧ inspect .d s = some (.bit s.flags.d) ∧
    inspect .b s = some (.bit s.flags.b) ∧ inspect .v s = some (.bit s.flags.v) ∧
    inspect .n s = some (.bit s.flags.n) ∧ inspect .cb s = some (.budget s.cb) ∧
    inspect .ls s = some (.loop s.ls) ∧ inspect .fr s = some (.record s.fr) ∧
    (∀ addr, addr < 65536 → inspect (.mem addr) s = some (.byte (Memory.read s.mem addr))) ∧
    (∀ addr, 65536 ≤ addr → inspect (.mem addr) s = none) ∧
    ∀ name, applyHostOp (.inspect name) s = s

/-- 10_state.md R18, 00_scope.md R5: a budget port or counter of a given width shows CB exactly wherever it can hold it;
cb_o has the width BUDGET_BITS, which holds -5 (R5), so in use it shows CB exactly wherever BudgetInv holds.  That cb_o
shows the stored CB while UNRESET too is the model's choice (notes/assumptions/23.md). -/
def Obligations.BudgetPortShowsBudget : Prop :=
  (∀ (bits : Nat) (cb : Int), 0 < bits → -(2 : Int) ^ (bits - 1) ≤ cb → cb < (2 : Int) ^ (bits - 1) →
    (budgetPort bits cb).toInt = cb) ∧
  (∀ cb : Int, -5 ≤ cb → cb ≤ 0 → budgetHeld Config.budgetBits cb) ∧
  ∀ (hostAddr : Word) (s : State),
    (outPorts hostAddr s).cbO = budgetPort Config.budgetBits s.cb ∧
    (BudgetInv s → Live s → (outPorts hostAddr s).cbO.toInt = s.cb)

/-- 10_state.md R19, 60_exceptions.md R92: the codes at the status and fault ports.  That the fault ports show the stored
FR while UNRESET too is the model's choice (notes/assumptions/23.md). -/
def Obligations.StatusPortCodes : Prop :=
  ∀ (hostAddr : Word) (s : State),
    (s.ls = .unreset ↔ (outPorts hostAddr s).ls = 0) ∧ (s.ls = .halted ↔ (outPorts hostAddr s).ls = 1) ∧
    (s.ls = .running ↔ (outPorts hostAddr s).ls = 2) ∧ (s.ls = .faulted ↔ (outPorts hostAddr s).ls = 3) ∧
    (s.fr.kind = .noFault ↔ (outPorts hostAddr s).faultKind = 0) ∧
    (s.fr.kind = .fetchAdvance ↔ (outPorts hostAddr s).faultKind = 1) ∧
    (s.fr.kind = .read ↔ (outPorts hostAddr s).faultKind = 2) ∧
    (s.fr.kind = .write ↔ (outPorts hostAddr s).faultKind = 3) ∧
    (outPorts hostAddr s).faultAddr = s.fr.addr ∧
    (outPorts hostAddr s).hostRdata = Memory.read s.mem hostAddr.toNat
end

