-- ==== Sys2Proof/Laws/Decode.lean ====
section
/-! SUPPORT. The byte order of a 16-bit operand, and what the opcode map gives for each opcode byte. -/

namespace Sys2Proof

/-- The two bytes of a word make the word again. -/
@[simp] theorem wordOf_hiByte_loByte (w : Word) : wordOf (hiByte w) (loByte w) = w := by
  apply BitVec.eq_of_toNat_eq
  have := w.isLt
  simp [wordOf, hiByte, loByte, Nat.shiftRight_eq_div_pow]
  omega

@[simp] theorem loByte_wordOf (hi lo : Byte) : loByte (wordOf hi lo) = lo := by
  apply BitVec.eq_of_toNat_eq
  have := hi.isLt
  have := lo.isLt
  simp [wordOf, loByte]
  omega

@[simp] theorem hiByte_wordOf (hi lo : Byte) : hiByte (wordOf hi lo) = hi := by
  apply BitVec.eq_of_toNat_eq
  have := hi.isLt
  have := lo.isLt
  simp [wordOf, hiByte, Nat.shiftRight_eq_div_pow]
  omega

/-- A handler of the opcode map is the one its opcode byte stands for. -/
def Handler.matches (op : Byte) : Handler → Bool
  | .ldaImm => op == 0xA9#8
  | .ldaZp => op == 0xA5#8
  | .ldaZpx => op == 0xB5#8
  | .jsr => op == 0x20#8
  | .unk i => i.isUnknown && i.opcode == op && op != 0xA9#8 && op != 0xA5#8 && op != 0xB5#8 && op != 0x20#8

set_option maxRecDepth 4000 in
/-- Every entry of the opcode map stands in its place. -/
theorem handlerOf_matches : ∀ op : Byte, (handlerOf op).matches op = true := by decide

/-- The handler of an opcode byte is one of the four defined ones, at its own value, or the unknown opcode of that
byte. -/
theorem handlerOf_cases (op : Byte) :
    (op = 0xA9#8 ∧ handlerOf op = .ldaImm) ∨ (op = 0xA5#8 ∧ handlerOf op = .ldaZp) ∨
    (op = 0xB5#8 ∧ handlerOf op = .ldaZpx) ∨ (op = 0x20#8 ∧ handlerOf op = .jsr) ∨
    (op ≠ 0xA9#8 ∧ op ≠ 0xA5#8 ∧ op ≠ 0xB5#8 ∧ op ≠ 0x20#8 ∧
      ∃ i, handlerOf op = .unk i ∧ i.isUnknown = true ∧ i.opcode = op) := by
  have h := handlerOf_matches op
  cases e : handlerOf op with
  | unk i =>
    simp only [e, Handler.matches, Bool.and_eq_true, beq_iff_eq, bne_iff_ne] at h
    obtain ⟨⟨⟨⟨⟨hu, ho⟩, h1⟩, h2⟩, h3⟩, h4⟩ := h
    exact .inr (.inr (.inr (.inr ⟨h1, h2, h3, h4, i, rfl, hu, ho⟩)))
  | ldaImm => exact .inl ⟨by simpa [e, Handler.matches] using h, rfl⟩
  | ldaZp => exact .inr (.inl ⟨by simpa [e, Handler.matches] using h, rfl⟩)
  | ldaZpx => exact .inr (.inr (.inl ⟨by simpa [e, Handler.matches] using h, rfl⟩))
  | jsr => exact .inr (.inr (.inr (.inl ⟨by simpa [e, Handler.matches] using h, rfl⟩)))

end Sys2Proof
end

