-- ==== Sys2Proof/Laws/Memory.lean ====
section
/-! SUPPORT. The laws of memory: a read after a write, and the canonical form that every operation keeps. -/

namespace Sys2Proof.Machine

@[simp] theorem Memory.read_nil (a : Nat) : Memory.read [] a = 0 := rfl

/-- An address below every listed one reads as zero. -/
theorem Memory.read_eq_zero_of_all_gt {m : List Host.Cell} {a : Nat}
    (h : m.all (fun c => decide (a < c.1)) = true) : Memory.read m a = 0 := by
  induction m with
  | nil => rfl
  | cons c rest ih =>
    obtain ⟨b, w⟩ := c
    simp only [List.all_cons, Bool.and_eq_true, decide_eq_true_eq] at h
    rw [Memory.read, if_neg (by omega)]
    exact ih h.2

/-- A write leaves every other address as it was, in canonical form or not. -/
theorem Memory.read_write_other (m : List Host.Cell) {a b : Nat} (v : Byte) (h : b ≠ a) :
    Memory.read (Memory.write m a v) b = Memory.read m b := by
  induction m with
  | nil =>
    rw [Memory.write]
    split
    · rfl
    · simp [Memory.read, Ne.symm h]
  | cons c rest ih =>
    obtain ⟨k, w⟩ := c
    rw [Memory.write]
    split_ifs with h1 h2 h3 h4
    · rfl
    · simp [Memory.read, Ne.symm h]
    · subst h3; simp [Memory.read, Ne.symm h]
    · subst h3; simp [Memory.read, Ne.symm h]
    · simp [Memory.read, ih]

theorem Memory.wf_cons {a : Nat} {v : Byte} {rest : List Host.Cell} :
    Memory.wf ((a, v) :: rest) = true ↔
      a < Config.memSize ∧ v ≠ 0 ∧ rest.all (fun c => decide (a < c.1)) = true ∧ Memory.wf rest = true := by
  simp only [Memory.wf, Bool.and_eq_true, decide_eq_true_eq, and_assoc]

/-- A read of the address just written gives the value written. -/
theorem Memory.read_write_same {m : List Host.Cell} (hm : Memory.wf m = true) (a : Nat) (v : Byte) :
    Memory.read (Memory.write m a v) a = v := by
  induction m with
  | nil =>
    rw [Memory.write]
    split
    · next h => simp [h]
    · simp [Memory.read]
  | cons c rest ih =>
    obtain ⟨k, w⟩ := c
    obtain ⟨-, -, hall, hrest⟩ := Memory.wf_cons.1 hm
    have below : ∀ j, j ≤ k → Memory.read rest j = 0 := fun j hj =>
      Memory.read_eq_zero_of_all_gt (List.all_eq_true.2 fun c hc => by
        have := List.all_eq_true.1 hall c hc
        simp only [decide_eq_true_eq] at this ⊢
        omega)
    rw [Memory.write]
    split_ifs with h1 h2 h3 h4
    · rw [Memory.read, if_neg (by omega), below a (by omega), h2]
    · simp [Memory.read]
    · rw [below a (by omega), h4]
    · simp [Memory.read]
    · rw [Memory.read, if_neg (by omega)]
      exact ih hrest

/-- Every address a write lists was listed before or is the one written. -/
theorem Memory.all_lt_write {m : List Host.Cell} {k a : Nat} (v : Byte) (hk : k < a)
    (h : m.all (fun c => decide (k < c.1)) = true) :
    (Memory.write m a v).all (fun c => decide (k < c.1)) = true := by
  induction m with
  | nil => rw [Memory.write]; split <;> simp [hk]
  | cons c rest ih =>
    obtain ⟨b, w⟩ := c
    simp only [List.all_cons, Bool.and_eq_true, decide_eq_true_eq] at h
    rw [Memory.write]
    split_ifs <;> simp only [List.all_cons, Bool.and_eq_true, decide_eq_true_eq, hk, h, ih h.2, and_self]

/-- A write inside the address space keeps the canonical form. -/
theorem Memory.wf_write {m : List Host.Cell} (hm : Memory.wf m = true) {a : Nat} (ha : a < Config.memSize) (v : Byte) :
    Memory.wf (Memory.write m a v) = true := by
  induction m with
  | nil =>
    rw [Memory.write]
    split
    · rfl
    · next h => exact Memory.wf_cons.2 ⟨ha, h, rfl, rfl⟩
  | cons c rest ih =>
    obtain ⟨k, w⟩ := c
    have hw := Memory.wf_cons.1 hm
    obtain ⟨hk, hv, hall, hrest⟩ := hw
    have above : ∀ j, j ≤ k → rest.all (fun c => decide (j < c.1)) = true := fun j hj =>
      List.all_eq_true.2 fun c hc => by
        have := List.all_eq_true.1 hall c hc
        simp only [decide_eq_true_eq] at this ⊢
        omega
    rw [Memory.write]
    split_ifs with h1 h2 h3 h4
    · exact hm
    · refine Memory.wf_cons.2 ⟨ha, h2, ?_, hm⟩
      simp only [List.all_cons, Bool.and_eq_true, decide_eq_true_eq]
      exact ⟨h1, above a (by omega)⟩
    · exact hrest
    · exact Memory.wf_cons.2 ⟨ha, h4, above a (by omega), hrest⟩
    · exact Memory.wf_cons.2 ⟨hk, hv, Memory.all_lt_write v (by omega) hall, ih hrest⟩

/-- Any list of cells gives a memory in canonical form. -/
theorem Memory.wf_ofCells (l : List Host.Cell) : Memory.wf (Memory.ofCells l) = true := by
  induction l with
  | nil => rfl
  | cons c rest ih =>
    obtain ⟨a, v⟩ := c
    rw [Memory.ofCells]
    split
    · next h => exact Memory.wf_write ih h v
    · exact ih

/-- Laying down consecutive bytes keeps the canonical form. -/
theorem Memory.wf_writeBytes (bytes : List Byte) {m : List Host.Cell} (hm : Memory.wf m = true) (a : Nat) :
    Memory.wf (Memory.writeBytes m a bytes) = true := by
  induction bytes generalizing m a with
  | nil => exact hm
  | cons v rest ih =>
    rw [Memory.writeBytes]
    split
    · next h => exact ih (Memory.wf_write hm h v) (a + 1)
    · exact hm

/-- The three bytes of an instruction that lies wholly in the address space. -/
theorem Memory.bytesFrom_three (m : List Host.Cell) {a : Nat} (h : a + 2 < 65536) :
    Memory.bytesFrom m a 3 = [Memory.read m a, Memory.read m (a + 1), Memory.read m (a + 2)] := by
  simp [Memory.bytesFrom, Config.memSize, show a < 65536 by omega, show a + 1 < 65536 by omega,
    show a + 1 + 1 < 65536 by omega]

end Sys2Proof.Machine
end

