-- ==== Sys2Proof/Laws/State.lean ====
section
/-! SUPPORT. What each named update of State does to each field: one lemma per field per update, so that no later proof
unfolds a record update. -/

namespace Sys2Proof.Machine

variable (s : State)

@[simp] theorem State.setPc_pc (v : Word) : (s.setPc v).pc = v := rfl
@[simp] theorem State.setPc_sp (v : Word) : (s.setPc v).sp = s.sp := rfl
@[simp] theorem State.setPc_a (v : Word) : (s.setPc v).a = s.a := rfl
@[simp] theorem State.setPc_x (v : Word) : (s.setPc v).x = s.x := rfl
@[simp] theorem State.setPc_y (v : Word) : (s.setPc v).y = s.y := rfl
@[simp] theorem State.setPc_flags (v : Word) : (s.setPc v).flags = s.flags := rfl
@[simp] theorem State.setPc_mem (v : Word) : (s.setPc v).mem = s.mem := rfl
@[simp] theorem State.setPc_cb (v : Word) : (s.setPc v).cb = s.cb := rfl
@[simp] theorem State.setPc_ls (v : Word) : (s.setPc v).ls = s.ls := rfl
@[simp] theorem State.setPc_fr (v : Word) : (s.setPc v).fr = s.fr := rfl
@[simp] theorem State.setPc_hostQueue (v : Word) : (s.setPc v).hostQueue = s.hostQueue := rfl
@[simp] theorem State.setPc_unkEvents (v : Word) : (s.setPc v).unkEvents = s.unkEvents := rfl
@[simp] theorem State.setPc_draws (v : Word) : (s.setPc v).draws = s.draws := rfl

@[simp] theorem State.setSp_pc (v : Word) : (s.setSp v).pc = s.pc := rfl
@[simp] theorem State.setSp_sp (v : Word) : (s.setSp v).sp = v := rfl
@[simp] theorem State.setSp_a (v : Word) : (s.setSp v).a = s.a := rfl
@[simp] theorem State.setSp_x (v : Word) : (s.setSp v).x = s.x := rfl
@[simp] theorem State.setSp_y (v : Word) : (s.setSp v).y = s.y := rfl
@[simp] theorem State.setSp_flags (v : Word) : (s.setSp v).flags = s.flags := rfl
@[simp] theorem State.setSp_mem (v : Word) : (s.setSp v).mem = s.mem := rfl
@[simp] theorem State.setSp_cb (v : Word) : (s.setSp v).cb = s.cb := rfl
@[simp] theorem State.setSp_ls (v : Word) : (s.setSp v).ls = s.ls := rfl
@[simp] theorem State.setSp_fr (v : Word) : (s.setSp v).fr = s.fr := rfl
@[simp] theorem State.setSp_hostQueue (v : Word) : (s.setSp v).hostQueue = s.hostQueue := rfl
@[simp] theorem State.setSp_unkEvents (v : Word) : (s.setSp v).unkEvents = s.unkEvents := rfl
@[simp] theorem State.setSp_draws (v : Word) : (s.setSp v).draws = s.draws := rfl

@[simp] theorem State.setA_pc (v : Byte) : (s.setA v).pc = s.pc := rfl
@[simp] theorem State.setA_sp (v : Byte) : (s.setA v).sp = s.sp := rfl
@[simp] theorem State.setA_a (v : Byte) : (s.setA v).a = v := rfl
@[simp] theorem State.setA_x (v : Byte) : (s.setA v).x = s.x := rfl
@[simp] theorem State.setA_y (v : Byte) : (s.setA v).y = s.y := rfl
@[simp] theorem State.setA_flags (v : Byte) : (s.setA v).flags = s.flags := rfl
@[simp] theorem State.setA_mem (v : Byte) : (s.setA v).mem = s.mem := rfl
@[simp] theorem State.setA_cb (v : Byte) : (s.setA v).cb = s.cb := rfl
@[simp] theorem State.setA_ls (v : Byte) : (s.setA v).ls = s.ls := rfl
@[simp] theorem State.setA_fr (v : Byte) : (s.setA v).fr = s.fr := rfl
@[simp] theorem State.setA_hostQueue (v : Byte) : (s.setA v).hostQueue = s.hostQueue := rfl
@[simp] theorem State.setA_unkEvents (v : Byte) : (s.setA v).unkEvents = s.unkEvents := rfl
@[simp] theorem State.setA_draws (v : Byte) : (s.setA v).draws = s.draws := rfl

@[simp] theorem State.setFlags_pc (f : Flags) : (s.setFlags f).pc = s.pc := rfl
@[simp] theorem State.setFlags_sp (f : Flags) : (s.setFlags f).sp = s.sp := rfl
@[simp] theorem State.setFlags_a (f : Flags) : (s.setFlags f).a = s.a := rfl
@[simp] theorem State.setFlags_x (f : Flags) : (s.setFlags f).x = s.x := rfl
@[simp] theorem State.setFlags_y (f : Flags) : (s.setFlags f).y = s.y := rfl
@[simp] theorem State.setFlags_flags (f : Flags) : (s.setFlags f).flags = f := rfl
@[simp] theorem State.setFlags_mem (f : Flags) : (s.setFlags f).mem = s.mem := rfl
@[simp] theorem State.setFlags_cb (f : Flags) : (s.setFlags f).cb = s.cb := rfl
@[simp] theorem State.setFlags_ls (f : Flags) : (s.setFlags f).ls = s.ls := rfl
@[simp] theorem State.setFlags_fr (f : Flags) : (s.setFlags f).fr = s.fr := rfl
@[simp] theorem State.setFlags_hostQueue (f : Flags) : (s.setFlags f).hostQueue = s.hostQueue := rfl
@[simp] theorem State.setFlags_unkEvents (f : Flags) : (s.setFlags f).unkEvents = s.unkEvents := rfl
@[simp] theorem State.setFlags_draws (f : Flags) : (s.setFlags f).draws = s.draws := rfl

@[simp] theorem State.setMem_pc (m : List Host.Cell) : (s.setMem m).pc = s.pc := rfl
@[simp] theorem State.setMem_sp (m : List Host.Cell) : (s.setMem m).sp = s.sp := rfl
@[simp] theorem State.setMem_a (m : List Host.Cell) : (s.setMem m).a = s.a := rfl
@[simp] theorem State.setMem_x (m : List Host.Cell) : (s.setMem m).x = s.x := rfl
@[simp] theorem State.setMem_y (m : List Host.Cell) : (s.setMem m).y = s.y := rfl
@[simp] theorem State.setMem_flags (m : List Host.Cell) : (s.setMem m).flags = s.flags := rfl
@[simp] theorem State.setMem_mem (m : List Host.Cell) : (s.setMem m).mem = m := rfl
@[simp] theorem State.setMem_cb (m : List Host.Cell) : (s.setMem m).cb = s.cb := rfl
@[simp] theorem State.setMem_ls (m : List Host.Cell) : (s.setMem m).ls = s.ls := rfl
@[simp] theorem State.setMem_fr (m : List Host.Cell) : (s.setMem m).fr = s.fr := rfl
@[simp] theorem State.setMem_hostQueue (m : List Host.Cell) : (s.setMem m).hostQueue = s.hostQueue := rfl
@[simp] theorem State.setMem_unkEvents (m : List Host.Cell) : (s.setMem m).unkEvents = s.unkEvents := rfl
@[simp] theorem State.setMem_draws (m : List Host.Cell) : (s.setMem m).draws = s.draws := rfl

@[simp] theorem State.setCb_pc (n : Int) : (s.setCb n).pc = s.pc := rfl
@[simp] theorem State.setCb_sp (n : Int) : (s.setCb n).sp = s.sp := rfl
@[simp] theorem State.setCb_a (n : Int) : (s.setCb n).a = s.a := rfl
@[simp] theorem State.setCb_x (n : Int) : (s.setCb n).x = s.x := rfl
@[simp] theorem State.setCb_y (n : Int) : (s.setCb n).y = s.y := rfl
@[simp] theorem State.setCb_flags (n : Int) : (s.setCb n).flags = s.flags := rfl
@[simp] theorem State.setCb_mem (n : Int) : (s.setCb n).mem = s.mem := rfl
@[simp] theorem State.setCb_cb (n : Int) : (s.setCb n).cb = n := rfl
@[simp] theorem State.setCb_ls (n : Int) : (s.setCb n).ls = s.ls := rfl
@[simp] theorem State.setCb_fr (n : Int) : (s.setCb n).fr = s.fr := rfl
@[simp] theorem State.setCb_hostQueue (n : Int) : (s.setCb n).hostQueue = s.hostQueue := rfl
@[simp] theorem State.setCb_unkEvents (n : Int) : (s.setCb n).unkEvents = s.unkEvents := rfl
@[simp] theorem State.setCb_draws (n : Int) : (s.setCb n).draws = s.draws := rfl

@[simp] theorem State.setLs_pc (l : LoopState) : (s.setLs l).pc = s.pc := rfl
@[simp] theorem State.setLs_sp (l : LoopState) : (s.setLs l).sp = s.sp := rfl
@[simp] theorem State.setLs_a (l : LoopState) : (s.setLs l).a = s.a := rfl
@[simp] theorem State.setLs_x (l : LoopState) : (s.setLs l).x = s.x := rfl
@[simp] theorem State.setLs_y (l : LoopState) : (s.setLs l).y = s.y := rfl
@[simp] theorem State.setLs_flags (l : LoopState) : (s.setLs l).flags = s.flags := rfl
@[simp] theorem State.setLs_mem (l : LoopState) : (s.setLs l).mem = s.mem := rfl
@[simp] theorem State.setLs_cb (l : LoopState) : (s.setLs l).cb = s.cb := rfl
@[simp] theorem State.setLs_ls (l : LoopState) : (s.setLs l).ls = l := rfl
@[simp] theorem State.setLs_fr (l : LoopState) : (s.setLs l).fr = s.fr := rfl
@[simp] theorem State.setLs_hostQueue (l : LoopState) : (s.setLs l).hostQueue = s.hostQueue := rfl
@[simp] theorem State.setLs_unkEvents (l : LoopState) : (s.setLs l).unkEvents = s.unkEvents := rfl
@[simp] theorem State.setLs_draws (l : LoopState) : (s.setLs l).draws = s.draws := rfl

@[simp] theorem State.setHostQueue_pc (q : List HostOp) : (s.setHostQueue q).pc = s.pc := rfl
@[simp] theorem State.setHostQueue_sp (q : List HostOp) : (s.setHostQueue q).sp = s.sp := rfl
@[simp] theorem State.setHostQueue_a (q : List HostOp) : (s.setHostQueue q).a = s.a := rfl
@[simp] theorem State.setHostQueue_x (q : List HostOp) : (s.setHostQueue q).x = s.x := rfl
@[simp] theorem State.setHostQueue_y (q : List HostOp) : (s.setHostQueue q).y = s.y := rfl
@[simp] theorem State.setHostQueue_flags (q : List HostOp) : (s.setHostQueue q).flags = s.flags := rfl
@[simp] theorem State.setHostQueue_mem (q : List HostOp) : (s.setHostQueue q).mem = s.mem := rfl
@[simp] theorem State.setHostQueue_cb (q : List HostOp) : (s.setHostQueue q).cb = s.cb := rfl
@[simp] theorem State.setHostQueue_ls (q : List HostOp) : (s.setHostQueue q).ls = s.ls := rfl
@[simp] theorem State.setHostQueue_fr (q : List HostOp) : (s.setHostQueue q).fr = s.fr := rfl
@[simp] theorem State.setHostQueue_hostQueue (q : List HostOp) : (s.setHostQueue q).hostQueue = q := rfl
@[simp] theorem State.setHostQueue_unkEvents (q : List HostOp) : (s.setHostQueue q).unkEvents = s.unkEvents := rfl
@[simp] theorem State.setHostQueue_draws (q : List HostOp) : (s.setHostQueue q).draws = s.draws := rfl

@[simp] theorem State.debit_pc (n : Int) : (s.debit n).pc = s.pc := rfl
@[simp] theorem State.debit_sp (n : Int) : (s.debit n).sp = s.sp := rfl
@[simp] theorem State.debit_a (n : Int) : (s.debit n).a = s.a := rfl
@[simp] theorem State.debit_x (n : Int) : (s.debit n).x = s.x := rfl
@[simp] theorem State.debit_y (n : Int) : (s.debit n).y = s.y := rfl
@[simp] theorem State.debit_flags (n : Int) : (s.debit n).flags = s.flags := rfl
@[simp] theorem State.debit_mem (n : Int) : (s.debit n).mem = s.mem := rfl
@[simp] theorem State.debit_cb (n : Int) : (s.debit n).cb = s.cb - n := rfl
@[simp] theorem State.debit_ls (n : Int) : (s.debit n).ls = s.ls := rfl
@[simp] theorem State.debit_fr (n : Int) : (s.debit n).fr = s.fr := rfl
@[simp] theorem State.debit_hostQueue (n : Int) : (s.debit n).hostQueue = s.hostQueue := rfl
@[simp] theorem State.debit_unkEvents (n : Int) : (s.debit n).unkEvents = s.unkEvents := rfl
@[simp] theorem State.debit_draws (n : Int) : (s.debit n).draws = s.draws := rfl

@[simp] theorem State.emitUnk_pc (op : Byte) (p : Word) : (s.emitUnk op p).pc = s.pc := rfl
@[simp] theorem State.emitUnk_sp (op : Byte) (p : Word) : (s.emitUnk op p).sp = s.sp := rfl
@[simp] theorem State.emitUnk_a (op : Byte) (p : Word) : (s.emitUnk op p).a = s.a := rfl
@[simp] theorem State.emitUnk_x (op : Byte) (p : Word) : (s.emitUnk op p).x = s.x := rfl
@[simp] theorem State.emitUnk_y (op : Byte) (p : Word) : (s.emitUnk op p).y = s.y := rfl
@[simp] theorem State.emitUnk_flags (op : Byte) (p : Word) : (s.emitUnk op p).flags = s.flags := rfl
@[simp] theorem State.emitUnk_mem (op : Byte) (p : Word) : (s.emitUnk op p).mem = s.mem := rfl
@[simp] theorem State.emitUnk_cb (op : Byte) (p : Word) : (s.emitUnk op p).cb = s.cb := rfl
@[simp] theorem State.emitUnk_ls (op : Byte) (p : Word) : (s.emitUnk op p).ls = s.ls := rfl
@[simp] theorem State.emitUnk_fr (op : Byte) (p : Word) : (s.emitUnk op p).fr = s.fr := rfl
@[simp] theorem State.emitUnk_hostQueue (op : Byte) (p : Word) : (s.emitUnk op p).hostQueue = s.hostQueue := rfl
@[simp] theorem State.emitUnk_unkEvents (op : Byte) (p : Word) : (s.emitUnk op p).unkEvents = ⟨op, p⟩ :: s.unkEvents := rfl
@[simp] theorem State.emitUnk_draws (op : Byte) (p : Word) : (s.emitUnk op p).draws = s.draws := rfl

@[simp] theorem raiseFatal_ls (kind : FaultKind) (addr : Nat) : (raiseFatal kind addr s).ls = .faulted := rfl
@[simp] theorem raiseFatal_fr (kind : FaultKind) (addr : Nat) : (raiseFatal kind addr s).fr = ⟨kind, BitVec.ofNat 17 addr⟩ := rfl
@[simp] theorem raiseFatal_hostQueue (kind : FaultKind) (addr : Nat) : (raiseFatal kind addr s).hostQueue = s.hostQueue := rfl
@[simp] theorem raiseFatal_unkEvents (kind : FaultKind) (addr : Nat) : (raiseFatal kind addr s).unkEvents = s.unkEvents := rfl
@[simp] theorem raiseFatal_draws (kind : FaultKind) (addr : Nat) : (raiseFatal kind addr s).draws = s.draws + 1 := rfl
@[simp] theorem raiseFatal_mem (kind : FaultKind) (addr : Nat) :
    (raiseFatal kind addr s).mem = Memory.ofCells (Config.freeCells s.draws) := rfl

end Sys2Proof.Machine
end

