-- ==== Sys2Proof/Laws/Ops.lean ====
section
/-! SUPPORT. What each shared operation can do, said once: later proofs cite these and do not unfold the operations. -/

namespace Sys2Proof.Machine

@[simp] theorem Micro.bind_done {α β : Type} (v : α) (s : State) (k : α → State → Micro β) :
    (Micro.done v s).bind k = k v s := rfl

@[simp] theorem Micro.bind_fatal {α β : Type} (kind : FaultKind) (addr : Nat) (k : α → State → Micro β) :
    (Micro.fatal kind addr).bind k = .fatal kind addr := rfl

@[simp] theorem finish_done (s t : State) : finish s (.done () t) = .next t := rfl

@[simp] theorem finish_fatal (s : State) (kind : FaultKind) (addr : Nat) :
    finish s (.fatal kind addr) = .next (raiseFatal kind addr s) := rfl

theorem memRead_of_lt {addr : Nat} (s : State) (h : addr < 65536) :
    memRead addr s = .done (Memory.read s.mem addr) s :=
  if_neg (by simp [Config.memSize]; omega)

theorem memRead_of_ge {addr : Nat} (s : State) (h : 65536 ≤ addr) : memRead addr s = .fatal .read addr :=
  if_pos h

theorem memWrite_of_lt {addr : Nat} (v : Byte) (s : State) (h : addr < 65536) :
    memWrite addr v s = .done () (s.setMem (Memory.write s.mem addr v)) :=
  if_neg (by simp [Config.memSize]; omega)

theorem memWrite_of_ge {addr : Nat} (v : Byte) (s : State) (h : 65536 ≤ addr) :
    memWrite addr v s = .fatal .write addr :=
  if_pos h

/-- PC + 1, the exact sum narrowed to 16 bits. -/
theorem pc_succ (w : Word) : BitVec.ofNat 16 (w.toNat + 1) = w + 1 := by
  apply BitVec.eq_of_toNat_eq
  simp [BitVec.toNat_add]

/-- A fetch below 0xFFFF: the byte at PC, PC one further, one cycle. -/
theorem fetchByte_of_lt {s : State} (h : s.pc.toNat < 0xFFFF) :
    fetchByte s = .done (Memory.read s.mem s.pc.toNat) ((s.setPc (s.pc + 1)).debit 1) := by
  have hlt : ¬ Config.memSize ≤ s.pc.toNat + 1 := by simp [Config.memSize]; omega
  simp only [fetchByte, memRead_of_lt s (show s.pc.toNat < 65536 by omega), Micro.bind_done, if_neg hlt, pc_succ]

/-- The byte at 0xFFFF cannot be consumed. -/
theorem fetchByte_of_top {s : State} (h : ¬ s.pc.toNat < 0xFFFF) : fetchByte s = .fatal .fetchAdvance 65536 := by
  have hpc : s.pc.toNat = 65535 := by have := s.pc.isLt; omega
  rw [fetchByte, memRead_of_lt s s.pc.isLt, Micro.bind_done]
  simp [hpc, Config.memSize]

/-- PC + 1 as a number, below the top. -/
theorem toNat_succ {w : Word} (h : w.toNat < 0xFFFF) : (w + 1).toNat = w.toNat + 1 := by
  simp [BitVec.toNat_add]; omega

/-- A two-byte fetch below 0xFFFE. -/
theorem fetchWord_of_lt {s : State} (h : s.pc.toNat < 0xFFFE) :
    fetchWord s =
      .done (wordOf (Memory.read s.mem (s.pc.toNat + 1)) (Memory.read s.mem s.pc.toNat))
        ((s.setPc (s.pc + 2)).debit 2) := by
  have h1 : s.pc.toNat < 0xFFFF := by omega
  have h2 : ((s.setPc (s.pc + 1)).debit 1).pc.toNat < 0xFFFF := by
    simp only [State.debit_pc, State.setPc_pc, toNat_succ h1]; omega
  rw [fetchWord, fetchByte_of_lt h1, Micro.bind_done, fetchByte_of_lt h2]
  simp only [Micro.bind_done, State.debit_pc, State.setPc_pc, State.debit_mem, State.setPc_mem, toNat_succ h1]
  simp only [State.debit, State.setPc, Micro.done.injEq, true_and, State.mk.injEq, and_true]
  exact ⟨by rw [BitVec.add_assoc]; rfl, by omega⟩

/-- A two-byte fetch that would consume the byte at 0xFFFF. -/
theorem fetchWord_of_top {s : State} (h : ¬ s.pc.toNat < 0xFFFE) : fetchWord s = .fatal .fetchAdvance 65536 := by
  by_cases h1 : s.pc.toNat < 0xFFFF
  · have h2 : ¬ ((s.setPc (s.pc + 1)).debit 1).pc.toNat < 0xFFFF := by
      simp only [State.debit_pc, State.setPc_pc, toNat_succ h1]; omega
    rw [fetchWord, fetchByte_of_lt h1, Micro.bind_done, fetchByte_of_top h2, Micro.bind_fatal]
  · rw [fetchWord, fetchByte_of_top h1, Micro.bind_fatal]

/-- The immediate operand fetch yields the decoded operand. -/
theorem resolveImm_of_lt (imm8 : Byte) {s : State} (h : s.pc.toNat < 0xFFFF) :
    resolveImm imm8 s = .done imm8 ((s.setPc (s.pc + 1)).debit 1) := by
  rw [resolveImm, fetchByte_of_lt h, Micro.bind_done]

theorem resolveImm_of_top (imm8 : Byte) {s : State} (h : ¬ s.pc.toNat < 0xFFFF) :
    resolveImm imm8 s = .fatal .fetchAdvance 65536 := by
  rw [resolveImm, fetchByte_of_top h, Micro.bind_fatal]

/-- The zero-page operand fetch yields the zero-extended operand. -/
theorem resolveZp_of_lt (zp : Byte) {s : State} (h : s.pc.toNat < 0xFFFF) :
    resolveZp zp s = .done zp.toNat ((s.setPc (s.pc + 1)).debit 1) := by
  rw [resolveZp, fetchByte_of_lt h, Micro.bind_done]

theorem resolveZp_of_top (zp : Byte) {s : State} (h : ¬ s.pc.toNat < 0xFFFF) :
    resolveZp zp s = .fatal .fetchAdvance 65536 := by
  rw [resolveZp, fetchByte_of_top h, Micro.bind_fatal]

/-- The zero-page-X operand fetch and index addition. -/
theorem resolveZpx_of_lt (wrap : Bool) (zp : Byte) {s : State} (h : s.pc.toNat < 0xFFFF) :
    resolveZpx wrap zp s = .done (agu wrap zp s.x) (((s.setPc (s.pc + 1)).debit 1).debit 1) := by
  rw [resolveZpx, fetchByte_of_lt h, Micro.bind_done, State.debit_x, State.setPc_x]

theorem resolveZpx_of_top (wrap : Bool) (zp : Byte) {s : State} (h : ¬ s.pc.toNat < 0xFFFF) :
    resolveZpx wrap zp s = .fatal .fetchAdvance 65536 := by
  rw [resolveZpx, fetchByte_of_top h, Micro.bind_fatal]

/-- The target fetch yields the decoded target. -/
theorem resolveAbs_of_lt (target : Word) {s : State} (h : s.pc.toNat < 0xFFFE) :
    resolveAbs target s = .done target ((s.setPc (s.pc + 2)).debit 2) := by
  rw [resolveAbs, fetchWord_of_lt h, Micro.bind_done]

theorem resolveAbs_of_top (target : Word) {s : State} (h : ¬ s.pc.toNat < 0xFFFE) :
    resolveAbs target s = .fatal .fetchAdvance 65536 := by
  rw [resolveAbs, fetchWord_of_top h, Micro.bind_fatal]

/-- JSR_COMMIT never faults. -/
theorem jsrCommit_eq (target : Word) (s : State) :
    jsrCommit target s = .done () (((s.setSp (s.sp + 1)).setPc target).debit 1) := rfl

/-- The address adder stays below 0x1FF under either setting. -/
theorem agu_lt (wrap : Bool) (zp x : Byte) : agu wrap zp x < 0x1FF := by
  have := zp.isLt; have := x.isLt
  unfold agu; split <;> omega

theorem readEa_of_lt {ea : Nat} (s : State) (h : ea < 65536) :
    readEa ea s = .done (Memory.read s.mem ea) (s.debit 1) := by
  rw [readEa, memRead_of_lt s h, Micro.bind_done]

/-- WRITE_LO never faults: SP is an address. -/
theorem writeLo_eq (ret : Word) (s : State) :
    writeLo ret s = .done () ((s.setMem (Memory.write s.mem s.sp.toNat (loByte ret))).debit 1) := by
  rw [writeLo, memWrite_of_lt _ s s.sp.isLt, Micro.bind_done]

theorem writeHi_of_lt (ret : Word) {s : State} (h : s.sp.toNat < 0xFFFF) :
    writeHi ret s = .done () ((s.setMem (Memory.write s.mem (s.sp.toNat + 1) (hiByte ret))).debit 1) := by
  rw [writeHi, memWrite_of_lt _ s (by omega), Micro.bind_done]

/-- WRITE_HI with SP = 0xFFFF has its raw address past the end. -/
theorem writeHi_of_top (ret : Word) {s : State} (h : ¬ s.sp.toNat < 0xFFFF) :
    writeHi ret s = .fatal .write 65536 := by
  have hsp : s.sp.toNat = 65535 := by have := s.sp.isLt; omega
  rw [writeHi, memWrite_of_ge _ s (by omega), Micro.bind_fatal, hsp]

@[simp] theorem loadA_eq (v : Byte) (s : State) : loadA v s = (s.setA v).setFlags (s.flags.nz v) := rfl

@[simp] theorem Flags.nz_c (f : Flags) (v : Byte) : (f.nz v).c = f.c := rfl
@[simp] theorem Flags.nz_z (f : Flags) (v : Byte) : (f.nz v).z = (v == 0) := rfl
@[simp] theorem Flags.nz_i (f : Flags) (v : Byte) : (f.nz v).i = f.i := rfl
@[simp] theorem Flags.nz_d (f : Flags) (v : Byte) : (f.nz v).d = f.d := rfl
@[simp] theorem Flags.nz_b (f : Flags) (v : Byte) : (f.nz v).b = f.b := rfl
@[simp] theorem Flags.nz_v (f : Flags) (v : Byte) : (f.nz v).v = f.v := rfl
@[simp] theorem Flags.nz_n (f : Flags) (v : Byte) : (f.nz v).n = v.getLsbD 7 := rfl

end Sys2Proof.Machine
end

