-- ==== Sys2Proof/Laws/Exec.lean ====
section
/-! SUPPORT. The 252 unknown opcodes share one operation, and what one transition of the machine can be. -/

namespace Sys2Proof.Machine

/-- Every unknown opcode runs the shared operation with its own opcode value. -/
theorem exec_unknown {i : Instr} (h : i.isUnknown = true) (s : State) : exec i s = unknownOpcode i.opcode s := by
  cases i <;> first | rfl | exact absurd h (by decide) | simp [Instr.isUnknown] at h

/-- An unknown opcode is one byte long and costs one cycle. -/
theorem unknown_shape {i : Instr} (h : i.isUnknown = true) :
    lengthOf i.opcode = 1 ∧ cycles i = 1 ∧ i.operands = [] := by
  cases i <;> first | exact ⟨rfl, rfl, rfl⟩ | simp [Instr.isUnknown] at h

/-- An instruction is one of the four defined ones or an unknown opcode. -/
theorem instr_cases (i : Instr) :
    (∃ v, i = .ldaImm v) ∨ (∃ zp, i = .ldaZp zp) ∨ (∃ zp, i = .ldaZpx zp) ∨ (∃ t, i = .jsr t) ∨ i.isUnknown = true := by
  cases i <;> simp [Instr.isUnknown]

/-- What one step can be: the end of a run, one instruction, nothing, or one host operation. -/
theorem step_cases (s : State) :
    (s.ls = .running ∧ s.cb ≤ 0 ∧ step s = .next (s.setLs .halted)) ∨
    (s.ls = .running ∧ 0 < s.cb ∧ step s = instrStep s) ∨
    (s.ls ≠ .running ∧ s.hostQueue = [] ∧ step s = .next s) ∨
    (s.ls ≠ .running ∧ ∃ op rest, s.hostQueue = op :: rest ∧
      step s = .next (applyHostOp op (s.setHostQueue rest))) := by
  by_cases hr : s.ls = .running
  · by_cases hc : s.cb ≤ 0
    · exact .inl ⟨hr, hc, by simp [step, transition, hr, hc]⟩
    · exact .inr (.inl ⟨hr, by omega, by simp [step, transition, hr, hc]⟩)
  · refine .inr (.inr ?_)
    cases hq : s.hostQueue with
    | nil => exact .inl ⟨hr, rfl, by unfold step transition; cases hl : s.ls <;> simp_all⟩
    | cons op rest =>
      exact .inr ⟨hr, op, rest, rfl, by unfold step transition; cases hl : s.ls <;> simp_all⟩

/-- What one instruction can be: the decoded one, or a fetch past the end. -/
theorem instrStep_cases (s : State) :
    (∃ i rest, decode (fetchWindow s) = .ok i rest ∧ instrStep s = exec i s) ∨
    instrStep s = .next (raiseFatal .fetchAdvance 65536 s) := by
  unfold instrStep
  cases h : decode (fetchWindow s) with
  | ok i rest => exact .inl ⟨i, rest, rfl, rfl⟩
  | noBytes => exact .inr rfl
  | truncated op => exact .inr rfl

end Sys2Proof.Machine
end

