-- ==== Sys2Proof/Laws/HostOps.lean ====
section
/-! SUPPORT. What a whole run called by the host is, and which budgets a counter holds. -/

namespace Sys2Proof.Machine

/-- From HALTED a whole run is the loop from the state execute leaves. -/
theorem executeRun_of_halted (budget : Int) {s : State} (h : s.ls = .halted) :
    executeRun budget s = runLoop (budget.toNat + 1) (hostExecute budget s) := by simp [executeRun, h]

/-- Unless HALTED a whole run is refused. -/
theorem executeRun_of_not_halted (budget : Int) {s : State} (h : s.ls ≠ .halted) : executeRun budget s = .next s := by
  cases hl : s.ls <;> simp_all [executeRun]

/-- BUDGET_BITS holds whatever four bits hold. -/
theorem budgetHeld_small {cb : Int} (h : -8 ≤ cb) (h' : cb < 8) : budgetHeld Config.budgetBits cb := by
  have p : (1 : Int) ≤ 2 ^ Config.budgetExtraBits := one_le_pow₀ (by decide)
  have e : Config.budgetBits - 1 = Config.budgetExtraBits + 3 := rfl
  rw [budgetHeld, e, pow_add]
  omega

/-- What BUDGET_BITS holds it holds after a debit that leaves at least -5 (R63). -/
theorem budgetHeld_debit {cb rest : Int} (h : budgetHeld Config.budgetBits cb) (h5 : -5 ≤ rest) (hle : rest ≤ cb) :
    budgetHeld Config.budgetBits rest := by
  have := (budgetHeld_small (cb := -5) (by decide) (by decide)).1
  exact ⟨by omega, by have := h.2; omega⟩

end Sys2Proof.Machine
end

