-- ==== Sys2Proof/Laws/PerInstr.lean ====
section
/-! SUPPORT. One lemma per instruction about its encoding: it begins with the opcode byte of its row, and its length is
the one the opcode alone decides (30_encoding.md R43, R46). -/

namespace Sys2Proof.Laws.EncodedShape

/-- The encoding begins with the opcode and is a whole, well-formed byte string of the length the opcode decides. -/
def Statement (i : Instr) : Prop :=
  (encode i).head? = some i.opcode ∧ (encode i).length = lengthOf i.opcode ∧ wellFormedBytes (encode i) = true

theorem unk00 : Statement .unk00 := ⟨rfl, rfl, rfl⟩
theorem unk01 : Statement .unk01 := ⟨rfl, rfl, rfl⟩
theorem unk02 : Statement .unk02 := ⟨rfl, rfl, rfl⟩
theorem unk03 : Statement .unk03 := ⟨rfl, rfl, rfl⟩
theorem unk04 : Statement .unk04 := ⟨rfl, rfl, rfl⟩
theorem unk05 : Statement .unk05 := ⟨rfl, rfl, rfl⟩
theorem unk06 : Statement .unk06 := ⟨rfl, rfl, rfl⟩
theorem unk07 : Statement .unk07 := ⟨rfl, rfl, rfl⟩
theorem unk08 : Statement .unk08 := ⟨rfl, rfl, rfl⟩
theorem unk09 : Statement .unk09 := ⟨rfl, rfl, rfl⟩
theorem unk0A : Statement .unk0A := ⟨rfl, rfl, rfl⟩
theorem unk0B : Statement .unk0B := ⟨rfl, rfl, rfl⟩
theorem unk0C : Statement .unk0C := ⟨rfl, rfl, rfl⟩
theorem unk0D : Statement .unk0D := ⟨rfl, rfl, rfl⟩
theorem unk0E : Statement .unk0E := ⟨rfl, rfl, rfl⟩
theorem unk0F : Statement .unk0F := ⟨rfl, rfl, rfl⟩
theorem unk10 : Statement .unk10 := ⟨rfl, rfl, rfl⟩
theorem unk11 : Statement .unk11 := ⟨rfl, rfl, rfl⟩
theorem unk12 : Statement .unk12 := ⟨rfl, rfl, rfl⟩
theorem unk13 : Statement .unk13 := ⟨rfl, rfl, rfl⟩
theorem unk14 : Statement .unk14 := ⟨rfl, rfl, rfl⟩
theorem unk15 : Statement .unk15 := ⟨rfl, rfl, rfl⟩
theorem unk16 : Statement .unk16 := ⟨rfl, rfl, rfl⟩
theorem unk17 : Statement .unk17 := ⟨rfl, rfl, rfl⟩
theorem unk18 : Statement .unk18 := ⟨rfl, rfl, rfl⟩
theorem unk19 : Statement .unk19 := ⟨rfl, rfl, rfl⟩
theorem unk1A : Statement .unk1A := ⟨rfl, rfl, rfl⟩
theorem unk1B : Statement .unk1B := ⟨rfl, rfl, rfl⟩
theorem unk1C : Statement .unk1C := ⟨rfl, rfl, rfl⟩
theorem unk1D : Statement .unk1D := ⟨rfl, rfl, rfl⟩
theorem unk1E : Statement .unk1E := ⟨rfl, rfl, rfl⟩
theorem unk1F : Statement .unk1F := ⟨rfl, rfl, rfl⟩
theorem jsr (target : Word) : Statement (.jsr target) := ⟨rfl, rfl, rfl⟩
theorem unk21 : Statement .unk21 := ⟨rfl, rfl, rfl⟩
theorem unk22 : Statement .unk22 := ⟨rfl, rfl, rfl⟩
theorem unk23 : Statement .unk23 := ⟨rfl, rfl, rfl⟩
theorem unk24 : Statement .unk24 := ⟨rfl, rfl, rfl⟩
theorem unk25 : Statement .unk25 := ⟨rfl, rfl, rfl⟩
theorem unk26 : Statement .unk26 := ⟨rfl, rfl, rfl⟩
theorem unk27 : Statement .unk27 := ⟨rfl, rfl, rfl⟩
theorem unk28 : Statement .unk28 := ⟨rfl, rfl, rfl⟩
theorem unk29 : Statement .unk29 := ⟨rfl, rfl, rfl⟩
theorem unk2A : Statement .unk2A := ⟨rfl, rfl, rfl⟩
theorem unk2B : Statement .unk2B := ⟨rfl, rfl, rfl⟩
theorem unk2C : Statement .unk2C := ⟨rfl, rfl, rfl⟩
theorem unk2D : Statement .unk2D := ⟨rfl, rfl, rfl⟩
theorem unk2E : Statement .unk2E := ⟨rfl, rfl, rfl⟩
theorem unk2F : Statement .unk2F := ⟨rfl, rfl, rfl⟩
theorem unk30 : Statement .unk30 := ⟨rfl, rfl, rfl⟩
theorem unk31 : Statement .unk31 := ⟨rfl, rfl, rfl⟩
theorem unk32 : Statement .unk32 := ⟨rfl, rfl, rfl⟩
theorem unk33 : Statement .unk33 := ⟨rfl, rfl, rfl⟩
theorem unk34 : Statement .unk34 := ⟨rfl, rfl, rfl⟩
theorem unk35 : Statement .unk35 := ⟨rfl, rfl, rfl⟩
theorem unk36 : Statement .unk36 := ⟨rfl, rfl, rfl⟩
theorem unk37 : Statement .unk37 := ⟨rfl, rfl, rfl⟩
theorem unk38 : Statement .unk38 := ⟨rfl, rfl, rfl⟩
theorem unk39 : Statement .unk39 := ⟨rfl, rfl, rfl⟩
theorem unk3A : Statement .unk3A := ⟨rfl, rfl, rfl⟩
theorem unk3B : Statement .unk3B := ⟨rfl, rfl, rfl⟩
theorem unk3C : Statement .unk3C := ⟨rfl, rfl, rfl⟩
theorem unk3D : Statement .unk3D := ⟨rfl, rfl, rfl⟩
theorem unk3E : Statement .unk3E := ⟨rfl, rfl, rfl⟩
theorem unk3F : Statement .unk3F := ⟨rfl, rfl, rfl⟩
theorem unk40 : Statement .unk40 := ⟨rfl, rfl, rfl⟩
theorem unk41 : Statement .unk41 := ⟨rfl, rfl, rfl⟩
theorem unk42 : Statement .unk42 := ⟨rfl, rfl, rfl⟩
theorem unk43 : Statement .unk43 := ⟨rfl, rfl, rfl⟩
theorem unk44 : Statement .unk44 := ⟨rfl, rfl, rfl⟩
theorem unk45 : Statement .unk45 := ⟨rfl, rfl, rfl⟩
theorem unk46 : Statement .unk46 := ⟨rfl, rfl, rfl⟩
theorem unk47 : Statement .unk47 := ⟨rfl, rfl, rfl⟩
theorem unk48 : Statement .unk48 := ⟨rfl, rfl, rfl⟩
theorem unk49 : Statement .unk49 := ⟨rfl, rfl, rfl⟩
theorem unk4A : Statement .unk4A := ⟨rfl, rfl, rfl⟩
theorem unk4B : Statement .unk4B := ⟨rfl, rfl, rfl⟩
theorem unk4C : Statement .unk4C := ⟨rfl, rfl, rfl⟩
theorem unk4D : Statement .unk4D := ⟨rfl, rfl, rfl⟩
theorem unk4E : Statement .unk4E := ⟨rfl, rfl, rfl⟩
theorem unk4F : Statement .unk4F := ⟨rfl, rfl, rfl⟩
theorem unk50 : Statement .unk50 := ⟨rfl, rfl, rfl⟩
theorem unk51 : Statement .unk51 := ⟨rfl, rfl, rfl⟩
theorem unk52 : Statement .unk52 := ⟨rfl, rfl, rfl⟩
theorem unk53 : Statement .unk53 := ⟨rfl, rfl, rfl⟩
theorem unk54 : Statement .unk54 := ⟨rfl, rfl, rfl⟩
theorem unk55 : Statement .unk55 := ⟨rfl, rfl, rfl⟩
theorem unk56 : Statement .unk56 := ⟨rfl, rfl, rfl⟩
theorem unk57 : Statement .unk57 := ⟨rfl, rfl, rfl⟩
theorem unk58 : Statement .unk58 := ⟨rfl, rfl, rfl⟩
theorem unk59 : Statement .unk59 := ⟨rfl, rfl, rfl⟩
theorem unk5A : Statement .unk5A := ⟨rfl, rfl, rfl⟩
theorem unk5B : Statement .unk5B := ⟨rfl, rfl, rfl⟩
theorem unk5C : Statement .unk5C := ⟨rfl, rfl, rfl⟩
theorem unk5D : Statement .unk5D := ⟨rfl, rfl, rfl⟩
theorem unk5E : Statement .unk5E := ⟨rfl, rfl, rfl⟩
theorem unk5F : Statement .unk5F := ⟨rfl, rfl, rfl⟩
theorem unk60 : Statement .unk60 := ⟨rfl, rfl, rfl⟩
theorem unk61 : Statement .unk61 := ⟨rfl, rfl, rfl⟩
theorem unk62 : Statement .unk62 := ⟨rfl, rfl, rfl⟩
theorem unk63 : Statement .unk63 := ⟨rfl, rfl, rfl⟩
theorem unk64 : Statement .unk64 := ⟨rfl, rfl, rfl⟩
theorem unk65 : Statement .unk65 := ⟨rfl, rfl, rfl⟩
theorem unk66 : Statement .unk66 := ⟨rfl, rfl, rfl⟩
theorem unk67 : Statement .unk67 := ⟨rfl, rfl, rfl⟩
theorem unk68 : Statement .unk68 := ⟨rfl, rfl, rfl⟩
theorem unk69 : Statement .unk69 := ⟨rfl, rfl, rfl⟩
theorem unk6A : Statement .unk6A := ⟨rfl, rfl, rfl⟩
theorem unk6B : Statement .unk6B := ⟨rfl, rfl, rfl⟩
theorem unk6C : Statement .unk6C := ⟨rfl, rfl, rfl⟩
theorem unk6D : Statement .unk6D := ⟨rfl, rfl, rfl⟩
theorem unk6E : Statement .unk6E := ⟨rfl, rfl, rfl⟩
theorem unk6F : Statement .unk6F := ⟨rfl, rfl, rfl⟩
theorem unk70 : Statement .unk70 := ⟨rfl, rfl, rfl⟩
theorem unk71 : Statement .unk71 := ⟨rfl, rfl, rfl⟩
theorem unk72 : Statement .unk72 := ⟨rfl, rfl, rfl⟩
theorem unk73 : Statement .unk73 := ⟨rfl, rfl, rfl⟩
theorem unk74 : Statement .unk74 := ⟨rfl, rfl, rfl⟩
theorem unk75 : Statement .unk75 := ⟨rfl, rfl, rfl⟩
theorem unk76 : Statement .unk76 := ⟨rfl, rfl, rfl⟩
theorem unk77 : Statement .unk77 := ⟨rfl, rfl, rfl⟩
theorem unk78 : Statement .unk78 := ⟨rfl, rfl, rfl⟩
theorem unk79 : Statement .unk79 := ⟨rfl, rfl, rfl⟩
theorem unk7A : Statement .unk7A := ⟨rfl, rfl, rfl⟩
theorem unk7B : Statement .unk7B := ⟨rfl, rfl, rfl⟩
theorem unk7C : Statement .unk7C := ⟨rfl, rfl, rfl⟩
theorem unk7D : Statement .unk7D := ⟨rfl, rfl, rfl⟩
theorem unk7E : Statement .unk7E := ⟨rfl, rfl, rfl⟩
theorem unk7F : Statement .unk7F := ⟨rfl, rfl, rfl⟩
theorem unk80 : Statement .unk80 := ⟨rfl, rfl, rfl⟩
theorem unk81 : Statement .unk81 := ⟨rfl, rfl, rfl⟩
theorem unk82 : Statement .unk82 := ⟨rfl, rfl, rfl⟩
theorem unk83 : Statement .unk83 := ⟨rfl, rfl, rfl⟩
theorem unk84 : Statement .unk84 := ⟨rfl, rfl, rfl⟩
theorem unk85 : Statement .unk85 := ⟨rfl, rfl, rfl⟩
theorem unk86 : Statement .unk86 := ⟨rfl, rfl, rfl⟩
theorem unk87 : Statement .unk87 := ⟨rfl, rfl, rfl⟩
theorem unk88 : Statement .unk88 := ⟨rfl, rfl, rfl⟩
theorem unk89 : Statement .unk89 := ⟨rfl, rfl, rfl⟩
theorem unk8A : Statement .unk8A := ⟨rfl, rfl, rfl⟩
theorem unk8B : Statement .unk8B := ⟨rfl, rfl, rfl⟩
theorem unk8C : Statement .unk8C := ⟨rfl, rfl, rfl⟩
theorem unk8D : Statement .unk8D := ⟨rfl, rfl, rfl⟩
theorem unk8E : Statement .unk8E := ⟨rfl, rfl, rfl⟩
theorem unk8F : Statement .unk8F := ⟨rfl, rfl, rfl⟩
theorem unk90 : Statement .unk90 := ⟨rfl, rfl, rfl⟩
theorem unk91 : Statement .unk91 := ⟨rfl, rfl, rfl⟩
theorem unk92 : Statement .unk92 := ⟨rfl, rfl, rfl⟩
theorem unk93 : Statement .unk93 := ⟨rfl, rfl, rfl⟩
theorem unk94 : Statement .unk94 := ⟨rfl, rfl, rfl⟩
theorem unk95 : Statement .unk95 := ⟨rfl, rfl, rfl⟩
theorem unk96 : Statement .unk96 := ⟨rfl, rfl, rfl⟩
theorem unk97 : Statement .unk97 := ⟨rfl, rfl, rfl⟩
theorem unk98 : Statement .unk98 := ⟨rfl, rfl, rfl⟩
theorem unk99 : Statement .unk99 := ⟨rfl, rfl, rfl⟩
theorem unk9A : Statement .unk9A := ⟨rfl, rfl, rfl⟩
theorem unk9B : Statement .unk9B := ⟨rfl, rfl, rfl⟩
theorem unk9C : Statement .unk9C := ⟨rfl, rfl, rfl⟩
theorem unk9D : Statement .unk9D := ⟨rfl, rfl, rfl⟩
theorem unk9E : Statement .unk9E := ⟨rfl, rfl, rfl⟩
theorem unk9F : Statement .unk9F := ⟨rfl, rfl, rfl⟩
theorem unkA0 : Statement .unkA0 := ⟨rfl, rfl, rfl⟩
theorem unkA1 : Statement .unkA1 := ⟨rfl, rfl, rfl⟩
theorem unkA2 : Statement .unkA2 := ⟨rfl, rfl, rfl⟩
theorem unkA3 : Statement .unkA3 := ⟨rfl, rfl, rfl⟩
theorem unkA4 : Statement .unkA4 := ⟨rfl, rfl, rfl⟩
theorem ldaZp (zp : Byte) : Statement (.ldaZp zp) := ⟨rfl, rfl, rfl⟩
theorem unkA6 : Statement .unkA6 := ⟨rfl, rfl, rfl⟩
theorem unkA7 : Statement .unkA7 := ⟨rfl, rfl, rfl⟩
theorem unkA8 : Statement .unkA8 := ⟨rfl, rfl, rfl⟩
theorem ldaImm (imm8 : Byte) : Statement (.ldaImm imm8) := ⟨rfl, rfl, rfl⟩
theorem unkAA : Statement .unkAA := ⟨rfl, rfl, rfl⟩
theorem unkAB : Statement .unkAB := ⟨rfl, rfl, rfl⟩
theorem unkAC : Statement .unkAC := ⟨rfl, rfl, rfl⟩
theorem unkAD : Statement .unkAD := ⟨rfl, rfl, rfl⟩
theorem unkAE : Statement .unkAE := ⟨rfl, rfl, rfl⟩
theorem unkAF : Statement .unkAF := ⟨rfl, rfl, rfl⟩
theorem unkB0 : Statement .unkB0 := ⟨rfl, rfl, rfl⟩
theorem unkB1 : Statement .unkB1 := ⟨rfl, rfl, rfl⟩
theorem unkB2 : Statement .unkB2 := ⟨rfl, rfl, rfl⟩
theorem unkB3 : Statement .unkB3 := ⟨rfl, rfl, rfl⟩
theorem unkB4 : Statement .unkB4 := ⟨rfl, rfl, rfl⟩
theorem ldaZpx (zp : Byte) : Statement (.ldaZpx zp) := ⟨rfl, rfl, rfl⟩
theorem unkB6 : Statement .unkB6 := ⟨rfl, rfl, rfl⟩
theorem unkB7 : Statement .unkB7 := ⟨rfl, rfl, rfl⟩
theorem unkB8 : Statement .unkB8 := ⟨rfl, rfl, rfl⟩
theorem unkB9 : Statement .unkB9 := ⟨rfl, rfl, rfl⟩
theorem unkBA : Statement .unkBA := ⟨rfl, rfl, rfl⟩
theorem unkBB : Statement .unkBB := ⟨rfl, rfl, rfl⟩
theorem unkBC : Statement .unkBC := ⟨rfl, rfl, rfl⟩
theorem unkBD : Statement .unkBD := ⟨rfl, rfl, rfl⟩
theorem unkBE : Statement .unkBE := ⟨rfl, rfl, rfl⟩
theorem unkBF : Statement .unkBF := ⟨rfl, rfl, rfl⟩
theorem unkC0 : Statement .unkC0 := ⟨rfl, rfl, rfl⟩
theorem unkC1 : Statement .unkC1 := ⟨rfl, rfl, rfl⟩
theorem unkC2 : Statement .unkC2 := ⟨rfl, rfl, rfl⟩
theorem unkC3 : Statement .unkC3 := ⟨rfl, rfl, rfl⟩
theorem unkC4 : Statement .unkC4 := ⟨rfl, rfl, rfl⟩
theorem unkC5 : Statement .unkC5 := ⟨rfl, rfl, rfl⟩
theorem unkC6 : Statement .unkC6 := ⟨rfl, rfl, rfl⟩
theorem unkC7 : Statement .unkC7 := ⟨rfl, rfl, rfl⟩
theorem unkC8 : Statement .unkC8 := ⟨rfl, rfl, rfl⟩
theorem unkC9 : Statement .unkC9 := ⟨rfl, rfl, rfl⟩
theorem unkCA : Statement .unkCA := ⟨rfl, rfl, rfl⟩
theorem unkCB : Statement .unkCB := ⟨rfl, rfl, rfl⟩
theorem unkCC : Statement .unkCC := ⟨rfl, rfl, rfl⟩
theorem unkCD : Statement .unkCD := ⟨rfl, rfl, rfl⟩
theorem unkCE : Statement .unkCE := ⟨rfl, rfl, rfl⟩
theorem unkCF : Statement .unkCF := ⟨rfl, rfl, rfl⟩
theorem unkD0 : Statement .unkD0 := ⟨rfl, rfl, rfl⟩
theorem unkD1 : Statement .unkD1 := ⟨rfl, rfl, rfl⟩
theorem unkD2 : Statement .unkD2 := ⟨rfl, rfl, rfl⟩
theorem unkD3 : Statement .unkD3 := ⟨rfl, rfl, rfl⟩
theorem unkD4 : Statement .unkD4 := ⟨rfl, rfl, rfl⟩
theorem unkD5 : Statement .unkD5 := ⟨rfl, rfl, rfl⟩
theorem unkD6 : Statement .unkD6 := ⟨rfl, rfl, rfl⟩
theorem unkD7 : Statement .unkD7 := ⟨rfl, rfl, rfl⟩
theorem unkD8 : Statement .unkD8 := ⟨rfl, rfl, rfl⟩
theorem unkD9 : Statement .unkD9 := ⟨rfl, rfl, rfl⟩
theorem unkDA : Statement .unkDA := ⟨rfl, rfl, rfl⟩
theorem unkDB : Statement .unkDB := ⟨rfl, rfl, rfl⟩
theorem unkDC : Statement .unkDC := ⟨rfl, rfl, rfl⟩
theorem unkDD : Statement .unkDD := ⟨rfl, rfl, rfl⟩
theorem unkDE : Statement .unkDE := ⟨rfl, rfl, rfl⟩
theorem unkDF : Statement .unkDF := ⟨rfl, rfl, rfl⟩
theorem unkE0 : Statement .unkE0 := ⟨rfl, rfl, rfl⟩
theorem unkE1 : Statement .unkE1 := ⟨rfl, rfl, rfl⟩
theorem unkE2 : Statement .unkE2 := ⟨rfl, rfl, rfl⟩
theorem unkE3 : Statement .unkE3 := ⟨rfl, rfl, rfl⟩
theorem unkE4 : Statement .unkE4 := ⟨rfl, rfl, rfl⟩
theorem unkE5 : Statement .unkE5 := ⟨rfl, rfl, rfl⟩
theorem unkE6 : Statement .unkE6 := ⟨rfl, rfl, rfl⟩
theorem unkE7 : Statement .unkE7 := ⟨rfl, rfl, rfl⟩
theorem unkE8 : Statement .unkE8 := ⟨rfl, rfl, rfl⟩
theorem unkE9 : Statement .unkE9 := ⟨rfl, rfl, rfl⟩
theorem unkEA : Statement .unkEA := ⟨rfl, rfl, rfl⟩
theorem unkEB : Statement .unkEB := ⟨rfl, rfl, rfl⟩
theorem unkEC : Statement .unkEC := ⟨rfl, rfl, rfl⟩
theorem unkED : Statement .unkED := ⟨rfl, rfl, rfl⟩
theorem unkEE : Statement .unkEE := ⟨rfl, rfl, rfl⟩
theorem unkEF : Statement .unkEF := ⟨rfl, rfl, rfl⟩
theorem unkF0 : Statement .unkF0 := ⟨rfl, rfl, rfl⟩
theorem unkF1 : Statement .unkF1 := ⟨rfl, rfl, rfl⟩
theorem unkF2 : Statement .unkF2 := ⟨rfl, rfl, rfl⟩
theorem unkF3 : Statement .unkF3 := ⟨rfl, rfl, rfl⟩
theorem unkF4 : Statement .unkF4 := ⟨rfl, rfl, rfl⟩
theorem unkF5 : Statement .unkF5 := ⟨rfl, rfl, rfl⟩
theorem unkF6 : Statement .unkF6 := ⟨rfl, rfl, rfl⟩
theorem unkF7 : Statement .unkF7 := ⟨rfl, rfl, rfl⟩
theorem unkF8 : Statement .unkF8 := ⟨rfl, rfl, rfl⟩
theorem unkF9 : Statement .unkF9 := ⟨rfl, rfl, rfl⟩
theorem unkFA : Statement .unkFA := ⟨rfl, rfl, rfl⟩
theorem unkFB : Statement .unkFB := ⟨rfl, rfl, rfl⟩
theorem unkFC : Statement .unkFC := ⟨rfl, rfl, rfl⟩
theorem unkFD : Statement .unkFD := ⟨rfl, rfl, rfl⟩
theorem unkFE : Statement .unkFE := ⟨rfl, rfl, rfl⟩
theorem unkFF : Statement .unkFF := ⟨rfl, rfl, rfl⟩

end Sys2Proof.Laws.EncodedShape
end

