-- ==== Sys2Proof/Laws/Wf.lean ====
section
/-! SUPPORT. Every operation on memory keeps the canonical form, and memory has it after reset and at power-on. -/

namespace Sys2Proof.Machine

theorem reset_mem_wf : Memory.wf State.reset.mem = true := rfl

theorem powerOn_mem_wf : Memory.wf State.powerOn.mem = true := rfl

theorem memWrite_mem_wf {addr : Nat} {v : Byte} {s t : State} (hs : Memory.wf s.mem = true)
    (h : memWrite addr v s = .done () t) : Memory.wf t.mem = true := by
  by_cases ha : addr < 65536
  · rw [memWrite_of_lt v s ha] at h
    obtain ⟨-, rfl⟩ := Micro.done.inj h
    exact Memory.wf_write hs ha v
  · rw [memWrite_of_ge v s (by omega)] at h
    cases h

/-- Whatever memory holds after a fault, it holds it in canonical form. -/
theorem raiseFatal_mem_wf (kind : FaultKind) (addr : Nat) (s : State) :
    Memory.wf (raiseFatal kind addr s).mem = true := Memory.wf_ofCells _

theorem hostLoad_mem_wf {s : State} (hs : Memory.wf s.mem = true) (addr : Nat) (v : Byte) :
    Memory.wf (hostLoad addr v s).mem = true := by
  unfold hostLoad
  split
  · next h => exact Memory.wf_write hs h v
  · exact hs

theorem hostExecute_mem (budget : Int) (s : State) : (hostExecute budget s).mem = s.mem := by
  unfold hostExecute
  split <;> rfl

theorem applyHostOp_mem_wf {s : State} (hs : Memory.wf s.mem = true) (op : HostOp) :
    Memory.wf (applyHostOp op s).mem = true := by
  cases op with
  | reset => rfl
  | load addr v => exact hostLoad_mem_wf hs addr v
  | execute b => exact (hostExecute_mem b s).symm ▸ hs
  | step => exact (hostExecute_mem 1 s).symm ▸ hs
  | inspect _ => exact hs

theorem placeAndRun_mem_wf {s : State} (hs : Memory.wf s.mem = true) (bytes : List Byte) :
    Memory.wf (placeAndRun bytes s).mem = true := Memory.wf_writeBytes bytes hs _

end Sys2Proof.Machine
end

