-- ==== Sys2Proof/Tests/Slice0.lean ====
section
/-! SUPPORT. The model's own tests: what the well-formedness check refuses, words written out from the spec's encodings,
one step of each instruction with the expected values of 95_test_vectors.md, and a witness for the hypotheses of every
statement that has some. -/

namespace Sys2Proof.Tests

open Machine

/-! ### Small states -/

/-- The launch state B of 95_test_vectors.md section 2 with these bytes at its PC and a run in progress. -/
def launch (pc : Word) (bytes : List Byte) : State :=
  { State.reset with pc := pc, a := 0x55, mem := Memory.writeBytes [] pc.toNat bytes, cb := 1, ls := .running }

/-- A machine that is not running, with host operations pending. -/
def idle (ls : LoopState) (q : List HostOp) : State := { State.reset with ls := ls, hostQueue := q }

/-- The outcome is a next state with this property. -/
def nextIs (o : Outcome) (p : State → Bool) : Bool :=
  match o with
  | .next t => p t
  | .fault _ => false
  | .refused _ => false

/-! ### Well-formedness: each check refuses an ill-formed term -/

theorem test_ill_formed_empty : wellFormedBytes [] = false := by decide
theorem test_ill_formed_load_without_operand : wellFormedBytes [0xA9#8] = false := by decide
theorem test_ill_formed_jsr_with_one_operand_byte : wellFormedBytes [0x20#8, 0x00#8] = false := by decide
theorem test_ill_formed_unknown_with_operand : wellFormedBytes [0xAD#8, 0x10#8] = false := by decide
theorem test_well_formed_jsr : wellFormedBytes [0x20#8, 0x42#8, 0x42#8] = true := by decide
theorem test_well_formed_instr : (Instr.jsr 0xFFFF).wellFormed = true := by decide

/-! ### Words from the encoding tables (30_encoding.md R44, R47) -/

/-- 1010 1001, then the operand byte. -/
theorem test_decode_lda_imm : decode [0b10101001#8, 0b10000100#8] = .ok (.ldaImm 0x84) [] := by decide
/-- 1010 0101, then the operand byte. -/
theorem test_decode_lda_zp : decode [0b10100101#8, 0b11111111#8] = .ok (.ldaZp 0xFF) [] := by decide
/-- 1011 0101, then the operand byte. -/
theorem test_decode_lda_zpx : decode [0b10110101#8, 0b11110000#8] = .ok (.ldaZpx 0xF0) [] := by decide
/-- 0010 0000, then the target's low byte 0x78, then its high byte 0x56. -/
theorem test_decode_jsr : decode [0b00100000#8, 0b01111000#8, 0b01010110#8] = .ok (.jsr 0x5678) [] := by decide
/-- 0xAD is unknown although it shares bits with 0xA5 and 0xA9 (R48); its next byte is not an operand. -/
theorem test_decode_unknown_ad : decode [0b10101101#8, 0x10#8] = .ok .unkAD [0x10#8] := by decide
theorem test_decode_unknown_00 : decode [0x00#8] = .ok .unk00 [] := by decide
theorem test_decode_unknown_ff : decode [0xFF#8] = .ok .unkFF [] := by decide
theorem test_decode_rejects_cut_short : decode [0x20#8, 0x78#8] = .truncated 0x20#8 := by decide
theorem test_decode_rejects_nothing : decode [] = .noBytes := by decide
set_option maxRecDepth 8000 in
/-- Every row of the opcode table decodes to the instruction of that opcode value. -/
theorem test_every_table_row :
    (List.range 256).all (fun n => (decodeTableWord 8 n).any (fun i => i.opcode == BitVec.ofNat 8 n)) = true := by decide

/-! ### One step of each instruction (95_test_vectors.md) -/

/-- L3: A9 80. -/
theorem test_lda_imm_negative :
    nextIs (step (launch 0x0200 [0xA9, 0x80]))
      (fun t => t.a == 0x80 && t.flags.n && !t.flags.z && t.pc == 0x0202 && t.cb == -1) = true := by decide
/-- L16: the operand of an LDA # at FFFE is the byte at FFFF. -/
theorem test_lda_imm_operand_at_end :
    nextIs (step (launch 0xFFFE [0xA9, 0x33]))
      (fun t => t.ls == .faulted && t.fr == ⟨.fetchAdvance, 0x10000⟩) = true := by decide
/-- L9: LDA zp in the zero page reads its own operand byte. -/
theorem test_lda_zp_reads_own_operand :
    nextIs (step (launch 0x0000 [0xA5, 0x01])) (fun t => t.a == 0x01 && t.pc == 0x0002 && t.cb == -2) = true := by decide
/-- L10: and its own opcode. -/
theorem test_lda_zp_reads_own_opcode :
    nextIs (step (launch 0x0000 [0xA5, 0x00])) (fun t => t.a == 0xA5 && t.flags.n) = true := by decide
/-- L13: the sum FF + 01 leaves the zero page. -/
theorem test_lda_zpx_unmasked :
    nextIs (step { launch 0x0200 [0xB5, 0xFF] with
        x := 0x01, mem := [(0x0000, 0x11), (0x0100, 0x99), (0x0200, 0xB5), (0x0201, 0xFF)] })
      (fun t => t.a == 0x99 && t.flags.n && !t.flags.c && t.cb == -3) = true := by decide
/-- L13 with ZPX_WRAP = true. -/
theorem test_lda_zpx_masked :
    nextIs (loadZpx true 0xFF { launch 0x0200 [0xB5, 0xFF] with
        x := 0x01, mem := [(0x0000, 0x11), (0x0100, 0x99), (0x0200, 0xB5), (0x0201, 0xFF)] })
      (fun t => t.a == 0x11 && !t.flags.n) = true := by decide
/-- J2: the return address 1236, low byte first. -/
theorem test_jsr_return_address :
    nextIs (step (launch 0x1234 [0x20, 0x78, 0x56]))
      (fun t => t.pc == 0x5678 && t.sp == 0x0101 && t.cb == -5 && Memory.bytesFrom t.mem 0x0100 2 == [0x36, 0x12]) =
      true := by decide
/-- J5: SP = FFFF. -/
theorem test_jsr_stack_at_end :
    nextIs (step { launch 0x0200 [0x20, 0x34, 0x12] with sp := 0xFFFF })
      (fun t => t.ls == .faulted && t.fr == ⟨.write, 0x10000⟩) = true := by decide
/-- J12: the writes land on the JSR's own bytes after they were fetched. -/
theorem test_jsr_over_itself :
    nextIs (step { launch 0x0200 [0x20, 0x00, 0x05] with sp := 0x0201 })
      (fun t => t.pc == 0x0500 && t.sp == 0x0202 && Memory.bytesFrom t.mem 0x0200 3 == [0x20, 0x02, 0x02]) =
      true := by decide
/-- U2: EA is no 6502 NOP. -/
theorem test_unknown_ea :
    nextIs (step (launch 0x0200 [0xEA]))
      (fun t => t.pc == 0x0201 && t.cb == 0 && t.a == 0x55 && t.unkEvents == [⟨0xEA, 0x0200⟩]) = true := by decide
/-- U5: the opcode at FFFF cannot be consumed. -/
theorem test_unknown_at_end :
    nextIs (step (launch 0xFFFF [0xFF]))
      (fun t => t.ls == .faulted && t.fr == ⟨.fetchAdvance, 0x10000⟩ && t.unkEvents == []) = true := by decide
/-- E5: a budget of -3 runs nothing. -/
theorem test_negative_budget :
    nextIs (executeRun (-3) State.reset) (fun t => t.pc == 0xFFFC && t.cb == -3 && t.ls == .halted) = true := by decide
/-- E12, E13: only a reset leaves FAULTED. -/
theorem test_running_refuses_run :
    executeRun 8 (launch 0x0200 [0xEA]) = .next (launch 0x0200 [0xEA]) := rfl
theorem test_faulted_refuses_execute :
    nextIs (step (idle .faulted [.execute 8])) (fun t => t.ls == .faulted) = true := by decide
theorem test_faulted_reset :
    nextIs (step (idle .faulted [.reset])) (fun t => t.ls == .halted && t.pc == 0xFFFC) = true := by decide
/-- A1 to A3: SetNZ. -/
theorem test_setnz :
    (setNZ 0x00 State.reset).flags.z = true ∧ (setNZ 0x80 State.reset).flags.n = true ∧
      (setNZ 0x7F State.reset).flags.n = false := by decide
/-- A4, A5: the address adder. -/
theorem test_agu : agu false 0xFF 0xFF = 0x1FE ∧ agu true 0xFF 0xFF = 0xFE := by decide
/-- The host's probe: the first instruction after reset is the one placed. -/
theorem test_with_fetch_word :
    step (State.reset.withFetchWord 8 0x20) = exec (.jsr 0x0000) (State.reset.withFetchWord 8 0x20) := by rfl

/-! ### Witnesses of the statements' hypotheses -/

theorem runs_lda_imm : RunsWhole (.ldaImm 0x84) (launch 0xFFFD [0xA9, 0x84]) := ⟨by decide, by intro t h; cases h⟩
theorem runs_lda_zp : RunsWhole (.ldaZp 0x10) (launch 0xFFFD [0xA5, 0x10]) := ⟨by decide, by intro t h; cases h⟩
theorem runs_lda_zpx : RunsWhole (.ldaZpx 0x10) (launch 0xFFFD [0xB5, 0x10]) := ⟨by decide, by intro t h; cases h⟩
theorem runs_jsr : RunsWhole (.jsr 0x4242) (launch 0xFFFC [0x20, 0x42, 0x42]) := ⟨by decide, fun _ _ => by decide⟩
theorem runs_unknown : RunsWhole .unkFF (launch 0xFFFE [0xFF]) := ⟨by decide, by intro t h; cases h⟩

theorem witness_HostResetSetsAllState : (idle .faulted []).ls ≠ .running := by decide
theorem witness_ResetAcceptedAndOnlyWayOut_accepted : (idle .unreset []).ls ≠ .running := by decide
theorem witness_ResetAcceptedAndOnlyWayOut_op :
    (idle .unreset []).ls = .unreset ∧ (applyHostOp .reset (idle .unreset [])).ls ≠ (idle .unreset []).ls := by decide
theorem witness_ResetAcceptedAndOnlyWayOut_out :
    ∃ t, (idle .faulted [.reset]).ls = .faulted ∧ step (idle .faulted [.reset]) = .next t ∧
      t.ls ≠ (idle .faulted [.reset]).ls := ⟨_, rfl, rfl, by decide⟩
theorem witness_ResetAcceptedAndOnlyWayOut_run :
    ∃ t, (launch 0x0200 [0xEA]).ls = .running ∧ step (launch 0x0200 [0xEA]) = .next t := ⟨_, rfl, rfl⟩
theorem witness_PowerOnHoldsNoRegisterValue : State.powerOn.ls = .unreset ∧ 65535 < 65536 := ⟨rfl, by decide⟩
theorem witness_ResetVectorIsNotRead : (0 : Int) < 8 := by decide
theorem witness_AccessPrimitivesCheckRange : 65535 < 65536 ∧ 65536 ≤ 65536 := by decide
theorem witness_ReadAfterWrite : Memory.wf [(0, 1), (65535, 2)] = true ∧ (65535 : Nat) ≠ 0 := by decide
theorem witness_DecodeOfEncode : (Instr.ldaZpx 0xF0).wellFormed = true := by decide
theorem witness_EncodeOfDecode : decode [0x20#8, 0x78#8, 0x56#8, 0x00#8] = .ok (.jsr 0x5678) [0x00#8] := by decide
theorem witness_OpcodeAloneDecidesLength_whole : 2 ≤ [0x78#8, 0x56#8].length := by decide
theorem witness_OpcodeAloneDecidesLength_cut : [0x78#8].length < 2 := by decide
theorem witness_FetchByteRule :
    (launch 0xFFFE []).pc ≠ 0xFFFF#16 ∧ (launch 0xFFFF []).pc = 0xFFFF#16 := ⟨by decide, rfl⟩
theorem witness_FetchWordRule :
    (launch 0xFFFD []).pc.toNat < 0xFFFE ∧ (launch 0xFFFE []).pc = 0xFFFE#16 ∧ (launch 0xFFFF []).pc = 0xFFFF#16 :=
  ⟨by decide, rfl, rfl⟩
theorem witness_FetchedOperandIsDecodedOperand_imm :
    decode (fetchWindow (launch 0xFFFD [0xA9, 0x84])) = .ok (.ldaImm 0x84) [0x00] ∧
      (launch 0xFFFD [0xA9, 0x84]).pc.toNat < 0xFFFE := by decide
theorem witness_FetchedOperandIsDecodedOperand_zp :
    decode (fetchWindow (launch 0xFFFD [0xA5, 0x10])) = .ok (.ldaZp 0x10) [0x00] ∧
      (launch 0xFFFD [0xA5, 0x10]).pc.toNat < 0xFFFE := by decide
theorem witness_FetchedOperandIsDecodedOperand_zpx :
    decode (fetchWindow (launch 0xFFFD [0xB5, 0x10])) = .ok (.ldaZpx 0x10) [0x00] ∧
      (launch 0xFFFD [0xB5, 0x10]).pc.toNat < 0xFFFE := by decide
theorem witness_FetchedOperandIsDecodedOperand_jsr :
    decode (fetchWindow (launch 0xFFFC [0x20, 0x42, 0x41])) = .ok (.jsr 0x4142) [] ∧
      (launch 0xFFFC [0x20, 0x42, 0x41]).pc.toNat < 0xFFFD := by decide
theorem witness_StepRunsDecodedInstruction :
    (launch 0xFFFC [0x20, 0x42, 0x42]).ls = .running ∧ 0 < (launch 0xFFFC [0x20, 0x42, 0x42]).cb ∧
      (Instr.jsr 0x4242).wellFormed = true ∧
      decode (fetchWindow (launch 0xFFFC [0x20, 0x42, 0x42])) = .ok (.jsr 0x4242) [] := by decide
theorem witness_StepRunsDecodedInstruction_window :
    (launch 0xFFFD []).pc.toNat < 0xFFFE ∧ (launch 0xFFFE []).pc = 0xFFFE#16 ∧ (launch 0xFFFF []).pc = 0xFFFF#16 :=
  ⟨by decide, rfl, rfl⟩
theorem witness_StepPastEndOfMemoryFaults :
    (launch 0xFFFE [0x20, 0x34]).ls = .running ∧ 0 < (launch 0xFFFE [0x20, 0x34]).cb ∧
      decode (fetchWindow (launch 0xFFFE [0x20, 0x34])) = .truncated 0x20#8 := by decide
theorem witness_BudgetTestedAtBoundary :
    (launch 0x0200 []).ls = .running ∧ 0 < (launch 0x0200 []).cb ∧ ({ launch 0x0200 [] with cb := 0 } : State).cb ≤ 0 := by
  decide
theorem witness_StepServesHostWhenNotRunning :
    State.reset.ls ≠ .running ∧ State.reset.hostQueue = [] ∧ (idle .faulted [.step]).ls ≠ .running ∧
      (idle .faulted [.step]).hostQueue = .step :: [] := ⟨by decide, rfl, by decide, rfl⟩
theorem witness_ExecuteKeepsState : State.reset.ls = .halted := rfl
theorem witness_ExecuteAndStepRefused :
    (idle .unreset []).ls ≠ .halted ∧ (idle .faulted []).ls ≠ .halted ∧ (launch 0x0200 []).ls ≠ .halted := by decide
theorem witness_SingleStepIsExecuteOne :
    ({ launch 0xFFFE [0xFF] with ls := .halted } : State).ls = .halted ∧
      decode (fetchWindow { launch 0xFFFE [0xFF] with ls := .halted }) = .ok .unkFF [0x00] ∧
      RunsWhole .unkFF { launch 0xFFFE [0xFF] with ls := .halted } :=
  ⟨rfl, by decide, runs_unknown⟩
theorem witness_SingleStepIsExecuteOne_result :
    nextIs (instrStep { State.reset with cb := 1, ls := .running }) (fun t => t.ls != .faulted) = true := by decide
theorem witness_HostLoadRule_ranges : 65535 < 65536 ∧ 65536 ≤ 65536 ∧ Memory.wf State.reset.mem = true := by decide
theorem witness_HostLoadRule_run :
    ∃ t, ({ launch 0x0200 [0xEA] with hostQueue := [.load 0 1] } : State).ls = .running ∧
      ({ launch 0x0200 [0xEA] with hostQueue := [.load 0 1] } : State).hostQueue = .load 0 1 :: [] ∧
      step { launch 0x0200 [0xEA] with hostQueue := [.load 0 1] } = .next t := ⟨_, rfl, rfl, rfl⟩
theorem witness_HostCannotActDuringRun :
    ∃ t, (launch 0x0200 [0xEA]).ls = .running ∧ step (launch 0x0200 [0xEA]) = .next t := ⟨_, rfl, rfl⟩
theorem witness_EveryRunEnds : State.reset.ls = .halted ∧ (0 : Int) ≤ 0 := ⟨rfl, by decide⟩
theorem witness_OverrunBound_boundary :
    ∃ t, State.reset.ls = .halted ∧ (0 : Int) < 1 ∧ runLoop 1 (hostExecute 1 State.reset) = .next t ∧
      t.ls ≠ .faulted := ⟨_, rfl, by decide, rfl, by decide⟩
theorem witness_OverrunBound_completes :
    ∃ t, State.reset.ls = .halted ∧ CompletesAt 1 State.reset t := ⟨_, rfl, rfl, rfl⟩
theorem witness_OverrunBound_nonpositive :
    ∃ t, State.reset.ls = .halted ∧ CompletesAt (-3) State.reset t ∧ (-3 : Int) ≤ 0 := ⟨_, rfl, ⟨rfl, rfl⟩, by decide⟩
theorem witness_OverrunBound_no_start :
    ({ launch 0x0200 [] with cb := 0 } : State).ls = .running ∧ ({ launch 0x0200 [] with cb := 0 } : State).cb < 1 := by
  decide
theorem witness_FatalPreconditionEndsRun : (idle .faulted []).ls = .faulted := rfl
theorem witness_WhichInstructionsFault_fetch :
    0x10000 ≤ (launch 0xFFFD []).pc.toNat + (encode (.jsr 0x1234)).length := by decide
theorem witness_WhichInstructionsFault_write :
    ({ launch 0xFFFC [] with sp := 0xFFFF } : State).pc.toNat + (encode (.jsr 0x1234)).length < 0x10000 ∧
      ({ launch 0xFFFC [] with sp := 0xFFFF } : State).sp = 0xFFFF#16 := by decide
theorem witness_WhichInstructionsFault_none : RunsWhole .unkFF (launch 0xFFFE [0xFF]) := runs_unknown
theorem witness_SetNZRule : RunsWhole (.ldaZp 0x10) (launch 0xFFFD [0xA5, 0x10]) := runs_lda_zp
theorem witness_InertFlags : RunsWhole (.jsr 0x4242) (launch 0xFFFC [0x20, 0x42, 0x42]) := runs_jsr
theorem witness_InertFlags_step :
    ∃ t, Live (launch 0x0200 [0xA9, 0x80]) ∧ Live t ∧ step (launch 0x0200 [0xA9, 0x80]) = .next t ∧
      (launch 0x0200 [0xA9, 0x80]).flags = ⟨false, false, false, false, false, false, false⟩ :=
  ⟨_, .inr rfl, .inr rfl, rfl, rfl⟩
theorem witness_EffectiveAddressInRange :
    ∃ t, (launch 0xFFFE [0xA9, 0x01]).ls ≠ .faulted ∧ exec (.ldaImm 0x01) (launch 0xFFFE [0xA9, 0x01]) = .next t ∧
      t.ls = .faulted := ⟨_, by decide, rfl, rfl⟩
theorem witness_LdaResults_boundaries :
    (launch 0xFFFD []).pc.toNat < 0xFFFE ∧ (launch 0xFFFE []).pc = 0xFFFE#16 ∧ (launch 0xFFFF []).pc = 0xFFFF#16 :=
  ⟨by decide, rfl, rfl⟩
theorem witness_JsrResult :
    (launch 0xFFFC []).pc.toNat < 0xFFFD ∧ (launch 0xFFFC []).sp ≠ 0xFFFF#16 ∧ (launch 0xFFFD []).pc = 0xFFFD#16 ∧
      ({ launch 0xFFFC [] with sp := 0xFFFF } : State).sp = 0xFFFF#16 := ⟨by decide, by decide, rfl, rfl⟩
theorem witness_UnknownOpcodeResult :
    Instr.unk00.isUnknown = true ∧ (launch 0xFFFE []).pc ≠ 0xFFFF#16 ∧ (launch 0xFFFF []).pc = 0xFFFF#16 :=
  ⟨rfl, by decide, rfl⟩
theorem witness_CycleCosts : RunsWhole (.ldaZpx 0x10) (launch 0xFFFD [0xB5, 0x10]) := runs_lda_zpx
theorem witness_CostIsNumberOfMicroOps :
    Instr.unkFF.isUnknown = true ∧ RunsWhole (.jsr 0x4242) (launch 0xFFFC [0x20, 0x42, 0x42]) := ⟨rfl, runs_jsr⟩
theorem witness_UnknownOpcodeEvent : RunsWhole .unkFF (launch 0xFFFE [0xFF]) := runs_unknown
theorem witness_LoadFrame :
    ∃ t, RunsWhole (.ldaImm 0x84) (launch 0xFFFD [0xA9, 0x84]) ∧
      exec (.ldaImm 0x84) (launch 0xFFFD [0xA9, 0x84]) = .next t := ⟨_, runs_lda_imm, rfl⟩
theorem witness_JsrFrame :
    ∃ t, RunsWhole (.jsr 0x4242) (launch 0xFFFC [0x20, 0x42, 0x42]) ∧
      exec (.jsr 0x4242) (launch 0xFFFC [0x20, 0x42, 0x42]) = .next t := ⟨_, runs_jsr, rfl⟩
theorem witness_UnknownOpcodeFrame :
    ∃ t, Instr.unkFF.isUnknown = true ∧ RunsWhole .unkFF (launch 0xFFFE [0xFF]) ∧
      exec .unkFF (launch 0xFFFE [0xFF]) = .next t := ⟨_, rfl, runs_unknown, rfl⟩
theorem witness_NoInstructionWritesIndexRegisters : RunsWhole (.ldaImm 0x84) (launch 0xFFFD [0xA9, 0x84]) := runs_lda_imm
theorem witness_OnlyJsrWritesMemory :
    ∃ t, RunsWhole (.jsr 0x4242) (launch 0xFFFC [0x20, 0x42, 0x42]) ∧
      exec (.jsr 0x4242) (launch 0xFFFC [0x20, 0x42, 0x42]) = .next t ∧
      t.mem ≠ (launch 0xFFFC [0x20, 0x42, 0x42]).mem := ⟨_, runs_jsr, rfl, by decide⟩
theorem witness_ReturnAddressIsLittleEndian :
    Memory.wf (launch 0xFFFC [0x20, 0x42, 0x42]).mem = true ∧
      RunsWhole (.jsr 0x4242) (launch 0xFFFC [0x20, 0x42, 0x42]) := ⟨by decide, runs_jsr⟩
theorem witness_NestedCallsStackLayout :
    ∃ t, Memory.wf (launch 0x1234 []).mem = true ∧ JsrChain [0x5678, 0x0300] (launch 0x1234 []) t :=
  ⟨_, by decide, ⟨by decide, fun _ _ => by decide⟩, _, rfl, ⟨by decide, fun _ _ => by decide⟩, _, rfl, rfl⟩
theorem witness_NestedCallsStackLayout_room :
    (launch 0xFFFC []).pc.toNat < 0xFFFD ∧ (∀ w ∈ [0x5678#16, 0xFFFC#16], w.toNat < 0xFFFD) ∧
      ({ launch 0xFFFC [] with sp := 0xFFFD } : State).sp.toNat + [0x5678#16, 0xFFFC#16].length ≤ 0xFFFF :=
  ⟨by decide, by simp, by decide⟩
theorem witness_FetchSeesJsrWrites :
    Memory.wf (launch 0xFFFC [0x20, 0x00, 0x01]).mem = true ∧
      RunsWhole (.jsr (launch 0xFFFC [0x20, 0x00, 0x01]).sp) (launch 0xFFFC [0x20, 0x00, 0x01]) :=
  ⟨by decide, by decide, fun _ _ => by decide⟩
theorem witness_ZeroPageXWithXZero : (launch 0xFFFD []).x = 0 ∧ (launch 0xFFFD []).pc.toNat < 0xFFFE := by decide
theorem witness_MachineInvariantKept :
    ∃ t, MachineInv (launch 0xFFFC [0x20, 0x42, 0x42]) ∧ step (launch 0xFFFC [0x20, 0x42, 0x42]) = .next t :=
  ⟨_, ⟨by decide, fun h => absurd h (by decide), fun _ => rfl, fun h => absurd h (by decide)⟩, rfl⟩
theorem witness_BudgetInvariantKept :
    ∃ t, BudgetInv { launch 0xFFFC [0x20, 0x42, 0x42] with hostQueue := [.execute 7] } ∧
      step { launch 0xFFFC [0x20, 0x42, 0x42] with hostQueue := [.execute 7] } = .next t :=
  ⟨_, ⟨by rintro b hb; obtain rfl : b = 7 := by simpa using hb
          exact budgetHeld_small (by decide) (by decide),
      fun _ => budgetHeld_small (by decide) (by decide)⟩, rfl⟩
theorem witness_SinceResetInvariantKept :
    ∃ t, SinceResetInv (launch 0xFFFC [0x20, 0x42, 0x42]) ∧ Live (launch 0xFFFC [0x20, 0x42, 0x42]) ∧
      step (launch 0xFFFC [0x20, 0x42, 0x42]) = .next t := ⟨_, fun _ => by decide, .inr rfl, rfl⟩
theorem witness_StackPointerNeverDecreases :
    ∃ t, Live (launch 0xFFFC [0x20, 0x42, 0x42]) ∧ Live t ∧
      ¬ ((launch 0xFFFC [0x20, 0x42, 0x42]).ls = .halted ∧
        (launch 0xFFFC [0x20, 0x42, 0x42]).hostQueue.head? = some .reset) ∧
      step (launch 0xFFFC [0x20, 0x42, 0x42]) = .next t := ⟨_, .inr rfl, .inr rfl, by decide, rfl⟩
theorem witness_AccessorsShowState : State.reset.ls ≠ .unreset ∧ 65535 < 65536 ∧ 65536 ≤ 65536 := by decide
theorem witness_BudgetPortShowsBudget_held : (-5 : Int) ≤ -5 ∧ (-5 : Int) ≤ 0 := by decide
theorem witness_BudgetPortShowsBudget_inUse :
    BudgetInv { launch 0x0200 [] with cb := -5 } ∧ Live { launch 0x0200 [] with cb := -5 } :=
  ⟨⟨fun _ h => (List.not_mem_nil h).elim, fun _ => budgetHeld_small (by decide) (by decide)⟩, .inr rfl⟩
theorem witness_BudgetPortShowsBudget : 0 < 4 ∧ -(2 : Int) ^ (4 - 1) ≤ -8 ∧ (7 : Int) < 2 ^ (4 - 1) := by decide

end Sys2Proof.Tests
end

section
/-! PROOFS. The registers, flags and budget of 10_state.md: what an instruction that runs whole leaves in every field,
what the accessors show, and the codes at the output ports. -/

namespace Sys2Proof.Machine

/-! ### When an instruction runs whole -/

/-- Only the length matters, except for JSR, which needs room on the stack too. -/
theorem runsWhole_iff_of_ne_jsr {i : Instr} {n : Nat} (hlen : lengthOf i.opcode = n) (hjsr : ∀ target, i ≠ .jsr target)
    {s : State} : RunsWhole i s ↔ s.pc.toNat < 0x10000 - n := by
  have hroom : ∀ target, i = .jsr target → s.sp ≠ 0xFFFF#16 := fun target h => absurd h (hjsr target)
  rw [RunsWhole, hlen, and_iff_left hroom, Nat.lt_sub_iff_add_lt]

theorem runsWhole_ldaImm_iff {v : Byte} {s : State} : RunsWhole (.ldaImm v) s ↔ s.pc.toNat < 0xFFFE :=
  runsWhole_iff_of_ne_jsr rfl (by simp)

theorem runsWhole_ldaZp_iff {zp : Byte} {s : State} : RunsWhole (.ldaZp zp) s ↔ s.pc.toNat < 0xFFFE :=
  runsWhole_iff_of_ne_jsr rfl (by simp)

theorem runsWhole_ldaZpx_iff {zp : Byte} {s : State} : RunsWhole (.ldaZpx zp) s ↔ s.pc.toNat < 0xFFFE :=
  runsWhole_iff_of_ne_jsr rfl (by simp)

theorem runsWhole_unknown_iff {i : Instr} (hi : i.isUnknown = true) {s : State} :
    RunsWhole i s ↔ s.pc.toNat < 0xFFFF :=
  runsWhole_iff_of_ne_jsr (unknown_shape hi).1 (by rintro target rfl; cases hi)

theorem runsWhole_jsr_iff {target : Word} {s : State} :
    RunsWhole (.jsr target) s ↔ s.pc.toNat < 0xFFFD ∧ s.sp.toNat < 0xFFFF := by
  have hlen : lengthOf (Instr.jsr target).opcode = 3 := rfl
  have hsp : s.sp ≠ 0xFFFF#16 ↔ s.sp.toNat < 0xFFFF := by bv_omega
  simp only [RunsWhole, hlen, Instr.jsr.injEq, forall_eq', hsp]
  omega

/-! ### The state an instruction leaves when it runs whole -/

theorem State.debit_debit (s : State) (m n : Int) : (s.debit m).debit n = s.debit (m + n) := by
  simp only [State.debit, Int.sub_sub]

/-- Two fetches one after the other move PC by two and cost two cycles. -/
theorem setPc_debit_twice (s : State) :
    (((s.setPc (s.pc + 1)).debit 1).setPc (((s.setPc (s.pc + 1)).debit 1).pc + 1)).debit 1 =
      (s.setPc (s.pc + 2)).debit 2 := by
  have hpc : s.pc + 1 + 1 = s.pc + 2 := BitVec.add_assoc s.pc 1 1
  have hcb : s.cb - 1 - 1 = s.cb - 2 := Int.sub_sub s.cb 1 1
  simp only [State.setPc, State.debit, hpc, hcb]

/-- After the opcode fetch below 0xFFFE one more byte can be consumed. -/
theorem pc_lt_after_fetch {s : State} (h : s.pc.toNat < 0xFFFE) :
    ((s.setPc (s.pc + 1)).debit 1).pc.toNat < 0xFFFF := by
  rw [State.debit_pc, State.setPc_pc, toNat_succ (by omega)]; omega

/-- 42_load.md R84. -/
theorem exec_ldaImm_of_lt (v : Byte) {s : State} (h : s.pc.toNat < 0xFFFE) :
    exec (.ldaImm v) s = .next { s with pc := s.pc + 2, a := v, flags := s.flags.nz v, cb := s.cb - 2 } := by
  change execLdaImm v s = _
  rw [execLdaImm, fetchByte_of_lt (by omega), Micro.bind_done, resolveImm_of_lt v (pc_lt_after_fetch h),
    setPc_debit_twice]
  rfl

/-- 42_load.md R85. -/
theorem exec_ldaZp_of_lt (zp : Byte) {s : State} (h : s.pc.toNat < 0xFFFE) :
    exec (.ldaZp zp) s = .next { s with
      pc := s.pc + 2, a := Memory.read s.mem zp.toNat, flags := s.flags.nz (Memory.read s.mem zp.toNat),
      cb := s.cb - 3 } := by
  change execLdaZp zp s = _
  rw [execLdaZp, fetchByte_of_lt (by omega), Micro.bind_done, resolveZp_of_lt zp (pc_lt_after_fetch h),
    Micro.bind_done, readEa_of_lt _ (by have := zp.isLt; omega), setPc_debit_twice, State.debit_debit]
  rfl

/-- 42_load.md R86, under either setting of ZPX_WRAP. -/
theorem loadZpx_of_lt (wrap : Bool) (zp : Byte) {s : State} (h : s.pc.toNat < 0xFFFE) :
    loadZpx wrap zp s = .next { s with
      pc := s.pc + 2, a := Memory.read s.mem (agu wrap zp s.x),
      flags := s.flags.nz (Memory.read s.mem (agu wrap zp s.x)), cb := s.cb - 4 } := by
  rw [loadZpx, fetchByte_of_lt (by omega), Micro.bind_done, resolveZpx_of_lt wrap zp (pc_lt_after_fetch h),
    Micro.bind_done, readEa_of_lt _ ((agu_lt wrap zp _).trans (by decide)), setPc_debit_twice, State.debit_debit,
    State.debit_debit]
  rfl

theorem exec_ldaZpx (zp : Byte) (s : State) : exec (.ldaZpx zp) s = loadZpx false zp s := rfl

/-- 43_subroutine.md R87: the return address is two past the JSR. -/
theorem exec_jsr_of_lt (target : Word) {s : State} (hpc : s.pc.toNat < 0xFFFD) (hsp : s.sp.toNat < 0xFFFF) :
    exec (.jsr target) s = .next { s with
      mem := Memory.write (Memory.write s.mem s.sp.toNat (loByte (s.pc + 2))) (s.sp.toNat + 1) (hiByte (s.pc + 2)),
      sp := s.sp + 1, pc := target, cb := s.cb - 6 } := by
  have hfetched : ((s.setPc (s.pc + 1)).debit 1).pc.toNat < 0xFFFE := by
    rw [State.debit_pc, State.setPc_pc, toNat_succ (by omega)]; omega
  have hret : s.pc + 1 + 2 - 1 = s.pc + 2 := by bv_omega
  change execJsr target s = _
  rw [execJsr, fetchByte_of_lt (by omega), Micro.bind_done, resolveAbs_of_lt target hfetched, Micro.bind_done]
  simp only [returnAddress, State.debit_pc, State.setPc_pc, hret, writeLo_eq, Micro.bind_done]
  rw [writeHi_of_lt _ (by exact hsp), Micro.bind_done, jsrCommit_eq, finish_done]
  simp only [State.debit, State.setPc, State.setSp, State.setMem, Int.sub_sub]
  rfl

/-- 44_unknown_opcode.md R90. -/
theorem exec_unknown_of_lt {i : Instr} (hi : i.isUnknown = true) {s : State} (h : s.pc.toNat < 0xFFFF) :
    exec i s = .next { s with
      pc := s.pc + 1, cb := s.cb - 1, unkEvents := ⟨i.opcode, s.pc⟩ :: s.unkEvents } := by
  rw [exec_unknown hi, unknownOpcode, fetchByte_of_lt h]
  rfl

/-! ### Accessors and ports -/

/-- From the first reset on a value exists (10_state.md R22, R24). -/
theorem State.onceReset_of_ne_unreset {s : State} (h : s.ls ≠ .unreset) (v : InspectValue) :
    s.onceReset v = some v := by
  unfold State.onceReset
  cases hl : s.ls with
  | unreset => exact absurd hl h
  | halted | running | faulted => rfl

theorem inspect_mem_of_lt {addr : Nat} (s : State) (h : addr < 65536) :
    inspect (.mem addr) s = some (.byte (Memory.read s.mem addr)) := if_pos h

theorem inspect_mem_of_ge {addr : Nat} (s : State) (h : 65536 ≤ addr) : inspect (.mem addr) s = none :=
  if_neg (Nat.not_lt.mpr h)

/-- A budget a signed port can hold is the value it shows. -/
theorem toInt_budgetPort {bits : Nat} {cb : Int} (hbits : 0 < bits) (h : budgetHeld bits cb) :
    (budgetPort bits cb).toInt = cb := by
  obtain ⟨hlo, hhi⟩ := h
  exact BitVec.toInt_ofInt_eq_self hbits hlo hhi

theorem LoopState.code_eq_iff {l m : LoopState} : l = m ↔ l.code = m.code := by
  cases l <;> cases m <;> decide

theorem FaultKind.code_eq_iff {k l : FaultKind} : k = l ↔ k.code = l.code := by
  cases k <;> cases l <;> decide

/-- Settles O47: the state each kind of instruction leaves has the X and Y of the state before. -/
theorem noInstructionWritesIndexRegisters : Obligations.NoInstructionWritesIndexRegisters := by
  intro i s hw
  rcases instr_cases i with ⟨v, rfl⟩ | ⟨zp, rfl⟩ | ⟨zp, rfl⟩ | ⟨target, rfl⟩ | hi
  · exact ⟨_, exec_ldaImm_of_lt v (runsWhole_ldaImm_iff.mp hw), rfl, rfl⟩
  · exact ⟨_, exec_ldaZp_of_lt zp (runsWhole_ldaZp_iff.mp hw), rfl, rfl⟩
  · exact ⟨_, (exec_ldaZpx zp s).trans (loadZpx_of_lt false zp (runsWhole_ldaZpx_iff.mp hw)), rfl, rfl⟩
  · obtain ⟨hpc, hsp⟩ := runsWhole_jsr_iff.mp hw
    exact ⟨_, exec_jsr_of_lt target hpc hsp, rfl, rfl⟩
  · exact ⟨_, exec_unknown_of_lt hi ((runsWhole_unknown_iff hi).mp hw), rfl, rfl⟩

/-- Settles O58: from the first reset on every accessor gives its value; a memory accessor tests the address range. -/
theorem accessorsShowState : Obligations.AccessorsShowState := by
  intro s h
  have shown := State.onceReset_of_ne_unreset h
  exact ⟨shown _, shown _, shown _, shown _, shown _, shown _, shown _, shown _, shown _, shown _, shown _, shown _,
    shown _, rfl, shown _, fun _ => inspect_mem_of_lt s, fun _ => inspect_mem_of_ge s, fun _ => rfl⟩

/-- Settles O59: a signed port shows what it holds, and BUDGET_BITS, at least 4, holds -5 to 0. -/
theorem budgetPortShowsBudget : Obligations.BudgetPortShowsBudget :=
  ⟨fun _ _ hbits hlo hhi => toInt_budgetPort hbits ⟨hlo, hhi⟩,
    fun _ hlo hhi => budgetHeld_small (by omega) (by omega),
    fun _ _ => ⟨rfl, fun hinv hlive => toInt_budgetPort (Nat.succ_pos _) (hinv.counted hlive)⟩⟩

/-- Settles O60: distinct loop states and distinct fault kinds have distinct codes. -/
theorem statusPortCodes : Obligations.StatusPortCodes := fun _ _ =>
  ⟨LoopState.code_eq_iff, LoopState.code_eq_iff, LoopState.code_eq_iff, LoopState.code_eq_iff,
    FaultKind.code_eq_iff, FaultKind.code_eq_iff, FaultKind.code_eq_iff, FaultKind.code_eq_iff, rfl, rfl⟩

end Sys2Proof.Machine
end

section
/-! PROOFS. The memory family of 20_memory.md: the range check of the access primitives, read after write, JSR as the one
instruction that writes, the return address it leaves, and the invariants of every step. -/

namespace Sys2Proof.Machine

/-! ### Instructions that would consume the byte at 0xFFFF, or push past it (60_exceptions.md R93) -/

/-- A fetch near the end of memory is fatal where what follows it is fatal one byte further on. -/
theorem fetchByte_bind_of_top {α : Type} {k : Byte → State → Micro α} {n : Nat} {s : State}
    (hk : ∀ v t, ¬ t.pc.toNat < n + 1 → k v t = .fatal .fetchAdvance 65536) (h : ¬ s.pc.toNat < n) :
    (fetchByte s).bind k = .fatal .fetchAdvance 65536 := by
  by_cases hpc : s.pc.toNat < 0xFFFF
  · rw [fetchByte_of_lt hpc, Micro.bind_done]
    refine hk _ _ ?_
    rw [State.debit_pc, State.setPc_pc, toNat_succ hpc]
    omega
  · rw [fetchByte_of_top hpc, Micro.bind_fatal]

theorem exec_ldaImm_of_top (v : Byte) {s : State} (h : ¬ s.pc.toNat < 0xFFFE) :
    exec (.ldaImm v) s = .next (raiseFatal .fetchAdvance 65536 s) := by
  change execLdaImm v s = _
  rw [execLdaImm, fetchByte_bind_of_top (fun _ _ ht => by rw [resolveImm_of_top v ht, Micro.bind_fatal]) h, finish_fatal]

theorem exec_ldaZp_of_top (zp : Byte) {s : State} (h : ¬ s.pc.toNat < 0xFFFE) :
    exec (.ldaZp zp) s = .next (raiseFatal .fetchAdvance 65536 s) := by
  change execLdaZp zp s = _
  rw [execLdaZp, fetchByte_bind_of_top (fun _ _ ht => by rw [resolveZp_of_top zp ht, Micro.bind_fatal]) h, finish_fatal]

theorem loadZpx_of_top (wrap : Bool) (zp : Byte) {s : State} (h : ¬ s.pc.toNat < 0xFFFE) :
    loadZpx wrap zp s = .next (raiseFatal .fetchAdvance 65536 s) := by
  rw [loadZpx, fetchByte_bind_of_top (fun _ _ ht => by rw [resolveZpx_of_top wrap zp ht, Micro.bind_fatal]) h,
    finish_fatal]

theorem exec_jsr_of_pc_top (target : Word) {s : State} (h : ¬ s.pc.toNat < 0xFFFD) :
    exec (.jsr target) s = .next (raiseFatal .fetchAdvance 65536 s) := by
  change execJsr target s = _
  rw [execJsr, fetchByte_bind_of_top (fun _ _ ht => by rw [resolveAbs_of_top target ht, Micro.bind_fatal]) h,
    finish_fatal]

/-- With SP = 0xFFFF the high byte of the return address has no place in memory (43_subroutine.md R87). -/
theorem exec_jsr_of_sp_top (target : Word) {s : State} (hpc : s.pc.toNat < 0xFFFD) (hsp : ¬ s.sp.toNat < 0xFFFF) :
    exec (.jsr target) s = .next (raiseFatal .write 65536 s) := by
  have hfetched : ((s.setPc (s.pc + 1)).debit 1).pc.toNat < 0xFFFE := by
    rw [State.debit_pc, State.setPc_pc, toNat_succ (by omega)]; omega
  change execJsr target s = _
  rw [execJsr, fetchByte_of_lt (by omega), Micro.bind_done, resolveAbs_of_lt target hfetched, Micro.bind_done]
  simp only [writeLo_eq, Micro.bind_done]
  rw [writeHi_of_top _ (by exact hsp), Micro.bind_fatal, finish_fatal]

theorem exec_unknown_of_top {i : Instr} (hi : i.isUnknown = true) {s : State} (h : ¬ s.pc.toNat < 0xFFFF) :
    exec i s = .next (raiseFatal .fetchAdvance 65536 s) := by
  rw [exec_unknown hi, unknownOpcode, fetchByte_of_top h, Micro.bind_fatal, finish_fatal]

/-- An instruction that does not run whole ends in one of two faults, each at raw address 0x10000. -/
theorem exec_of_not_runsWhole {i : Instr} {s : State} (hw : ¬ RunsWhole i s) :
    exec i s = .next (raiseFatal .fetchAdvance 65536 s) ∨ exec i s = .next (raiseFatal .write 65536 s) := by
  rcases instr_cases i with ⟨v, rfl⟩ | ⟨zp, rfl⟩ | ⟨zp, rfl⟩ | ⟨target, rfl⟩ | hi
  · exact .inl (exec_ldaImm_of_top v (mt runsWhole_ldaImm_iff.mpr hw))
  · exact .inl (exec_ldaZp_of_top zp (mt runsWhole_ldaZp_iff.mpr hw))
  · exact .inl ((exec_ldaZpx zp s).trans (loadZpx_of_top false zp (mt runsWhole_ldaZpx_iff.mpr hw)))
  · by_cases hpc : s.pc.toNat < 0xFFFD
    · exact .inr (exec_jsr_of_sp_top target hpc fun hsp => hw (runsWhole_jsr_iff.mpr ⟨hpc, hsp⟩))
    · exact .inl (exec_jsr_of_pc_top target hpc)
  · exact .inl (exec_unknown_of_top hi (mt (runsWhole_unknown_iff hi).mpr hw))

/-! ### What every instruction that runs whole keeps -/

/-- What any instruction `i` that runs whole from `s` has in common in the state `t` it leaves: the loop state, the fault
record and the pending operations are as before, the budget has paid the cycles of `i`, memory is as before but for a
JSR, and keeps its canonical form. -/
structure RanWhole (i : Instr) (s t : State) : Prop where
  ls : t.ls = s.ls
  fr : t.fr = s.fr
  hostQueue : t.hostQueue = s.hostQueue
  cb : t.cb = s.cb - (cycles i : Int)
  mem : (∀ target, i ≠ .jsr target) → t.mem = s.mem
  wf : Memory.wf s.mem = true → Memory.wf t.mem = true

theorem exec_of_runsWhole {i : Instr} {s : State} (hw : RunsWhole i s) : ∃ t, exec i s = .next t ∧ RanWhole i s t := by
  rcases instr_cases i with ⟨v, rfl⟩ | ⟨zp, rfl⟩ | ⟨zp, rfl⟩ | ⟨target, rfl⟩ | hi
  · exact ⟨_, exec_ldaImm_of_lt v (runsWhole_ldaImm_iff.mp hw), rfl, rfl, rfl, rfl, fun _ => rfl, id⟩
  · exact ⟨_, exec_ldaZp_of_lt zp (runsWhole_ldaZp_iff.mp hw), rfl, rfl, rfl, rfl, fun _ => rfl, id⟩
  · exact ⟨_, (exec_ldaZpx zp s).trans (loadZpx_of_lt false zp (runsWhole_ldaZpx_iff.mp hw)), rfl, rfl, rfl, rfl,
      fun _ => rfl, id⟩
  · obtain ⟨hpc, hsp⟩ := runsWhole_jsr_iff.mp hw
    have hhi : s.sp.toNat + 1 < Config.memSize := Nat.succ_lt_succ hsp
    exact ⟨_, exec_jsr_of_lt target hpc hsp, rfl, rfl, rfl, rfl, fun hne => absurd rfl (hne target),
      fun hm => Memory.wf_write (Memory.wf_write hm s.sp.isLt _) hhi _⟩
  · obtain ⟨-, hcost, -⟩ := unknown_shape hi
    exact ⟨_, exec_unknown_of_lt hi ((runsWhole_unknown_iff hi).mp hw), rfl, rfl, rfl, by rw [hcost]; rfl,
      fun _ => rfl, id⟩

/-- No instruction costs more than the six cycles of JSR (40_fetch_dispatch_loop.md R63). -/
theorem cycles_le_six (i : Instr) : cycles i ≤ 6 := by
  rcases instr_cases i with ⟨v, rfl⟩ | ⟨zp, rfl⟩ | ⟨zp, rfl⟩ | ⟨target, rfl⟩ | hi
  · exact (by decide : 2 ≤ 6)
  · exact (by decide : 3 ≤ 6)
  · exact (by decide : 4 ≤ 6)
  · exact le_refl 6
  · obtain ⟨-, hcost, -⟩ := unknown_shape hi
    omega

/-- The state one instruction of a run leaves: that of an instruction that ran whole, or one of the two faults. -/
theorem instrStep_next_cases {s t : State} (h : instrStep s = .next t) :
    (∃ i, RanWhole i s t) ∨ t = raiseFatal .fetchAdvance 65536 s ∨ t = raiseFatal .write 65536 s := by
  rcases instrStep_cases s with ⟨i, rest, -, hstep⟩ | hfatal
  · rw [hstep] at h
    by_cases hw : RunsWhole i s
    · obtain ⟨u, hu, hran⟩ := exec_of_runsWhole hw
      obtain rfl := Host.Outcome.next.inj (hu.symm.trans h)
      exact .inl ⟨i, hran⟩
    · exact .inr ((exec_of_not_runsWhole hw).imp (fun hf => Host.Outcome.next.inj (h.symm.trans hf))
        (fun hf => Host.Outcome.next.inj (h.symm.trans hf)))
  · exact .inr (.inl (Host.Outcome.next.inj (h.symm.trans hfatal)))

/-! ### What a host operation leaves -/

theorem hostExecute_of_halted (budget : Int) {s : State} (h : s.ls = .halted) :
    hostExecute budget s = (s.setCb budget).setLs .running := by
  rw [hostExecute, h]

theorem hostExecute_of_not_halted (budget : Int) {s : State} (h : s.ls ≠ .halted) : hostExecute budget s = s := by
  unfold hostExecute
  cases hl : s.ls with
  | halted => exact absurd hl h
  | unreset | running | faulted => rfl

theorem hostLoad_of_lt {addr : Nat} (v : Byte) (s : State) (h : addr < 65536) :
    hostLoad addr v s = s.setMem (Memory.write s.mem addr v) := if_pos h

theorem hostLoad_of_ge {addr : Nat} (v : Byte) (s : State) (h : 65536 ≤ addr) : hostLoad addr v s = s :=
  if_neg (Nat.not_lt.mpr h)

/-- While RUNNING no pending operation is taken. -/
theorem step_hostQueue_of_running {s t : State} (hr : s.ls = .running) (h : step s = .next t) :
    t.hostQueue = s.hostQueue := by
  rcases step_cases s with ⟨-, -, hs⟩ | ⟨-, -, hs⟩ | ⟨hn, -⟩ | ⟨hn, -⟩
  · obtain rfl := Host.Outcome.next.inj (hs.symm.trans h)
    rfl
  · rcases instrStep_next_cases (hs.symm.trans h) with ⟨i, hran⟩ | rfl | rfl
    · exact hran.hostQueue
    · rfl
    · rfl
  · exact absurd hr hn
  · exact absurd hr hn

/-! ### The return address on the stack -/

/-- 43_subroutine.md R87: a JSR that runs whole leaves the low byte of its return address at SP and the high byte at
SP + 1; the second write does not reach the first. -/
theorem exec_jsr_return_address (target : Word) {s : State} (hm : Memory.wf s.mem = true)
    (hw : RunsWhole (.jsr target) s) :
    ∃ t, exec (.jsr target) s = .next t ∧ t.pc = target ∧ t.sp = s.sp + 1 ∧
      Memory.read t.mem s.sp.toNat = loByte (s.pc + 2) ∧ Memory.read t.mem (s.sp.toNat + 1) = hiByte (s.pc + 2) := by
  obtain ⟨hpc, hsp⟩ := runsWhole_jsr_iff.mp hw
  refine ⟨_, exec_jsr_of_lt target hpc hsp, rfl, rfl, ?_, ?_⟩
  · exact (Memory.read_write_other _ _ (by omega)).trans (Memory.read_write_same hm _ _)
  · exact Memory.read_write_same (Memory.wf_write hm s.sp.isLt _) _ _

/-- A word is its two bytes. -/
theorem loByte_add_hiByte (w : Word) : (loByte w).toNat + 256 * (hiByte w).toNat = w.toNat := by
  have hlo : (loByte w).toNat = w.toNat % 256 := by simp [loByte]
  have hhi : (hiByte w).toNat = w.toNat / 256 := by
    have := w.isLt
    simp only [hiByte, BitVec.toNat_setWidth, BitVec.toNat_ushiftRight, Nat.shiftRight_eq_div_pow]
    omega
  rw [hlo, hhi, Nat.mod_add_div]

/-! ### The machine invariant -/

theorem machineInv_raiseFatal {kind : FaultKind} (hk : kind = .fetchAdvance ∨ kind = .write) (s : State) :
    MachineInv (raiseFatal kind 65536 s) where
  memory := raiseFatal_mem_wf kind 65536 s
  budget := nofun
  record h := by rcases h with h | h <;> cases h
  fault _ := by rcases hk with rfl | rfl <;> simp

theorem machineInv_setHostQueue {s : State} (hs : MachineInv s) (q : List HostOp) : MachineInv (s.setHostQueue q) :=
  ⟨hs.memory, hs.budget, hs.record, hs.fault⟩

theorem machineInv_hostExecute {s : State} (hs : MachineInv s) (budget : Int) : MachineInv (hostExecute budget s) := by
  by_cases hl : s.ls = .halted
  · rw [hostExecute_of_halted budget hl]
    exact ⟨hs.memory, nofun, fun _ => hs.record (.inl hl), nofun⟩
  · rwa [hostExecute_of_not_halted budget hl]

theorem machineInv_hostLoad {s : State} (hs : MachineInv s) (addr : Nat) (v : Byte) : MachineInv (hostLoad addr v s) := by
  by_cases ha : addr < 65536
  · rw [hostLoad_of_lt v s ha]
    exact ⟨Memory.wf_write hs.memory ha v, hs.budget, hs.record, hs.fault⟩
  · rwa [hostLoad_of_ge v s (Nat.not_lt.mp ha)]

theorem machineInv_applyHostOp {s : State} (hs : MachineInv s) (op : HostOp) : MachineInv (applyHostOp op s) := by
  cases op with
  | reset => exact ⟨rfl, fun _ => le_refl 0, fun _ => rfl, nofun⟩
  | load addr v => exact machineInv_hostLoad hs addr v
  | execute budget => exact machineInv_hostExecute hs budget
  | step => exact machineInv_hostExecute hs 1
  | inspect name => exact hs

/-- During a run LS stays RUNNING and FR empty, unless the instruction faults. -/
theorem machineInv_instrStep {s t : State} (hs : MachineInv s) (hr : s.ls = .running) (h : instrStep s = .next t) :
    MachineInv t := by
  rcases instrStep_next_cases h with ⟨i, hran⟩ | rfl | rfl
  · have hrt : t.ls = .running := hran.ls.trans hr
    exact ⟨hran.wf hs.memory, fun hl => (nomatch hrt.symm.trans hl), fun _ => hran.fr.trans (hs.record (.inr hr)),
      fun hl => (nomatch hrt.symm.trans hl)⟩
  · exact machineInv_raiseFatal (.inl rfl) s
  · exact machineInv_raiseFatal (.inr rfl) s

theorem machineInv_step {s t : State} (hs : MachineInv s) (h : step s = .next t) : MachineInv t := by
  rcases step_cases s with ⟨hr, hcb, hstep⟩ | ⟨hr, -, hstep⟩ | ⟨-, -, hstep⟩ | ⟨-, op, rest, -, hstep⟩
  · obtain rfl := Host.Outcome.next.inj (hstep.symm.trans h)
    exact ⟨hs.memory, fun _ => hcb, fun _ => hs.record (.inr hr), nofun⟩
  · exact machineInv_instrStep hs hr (hstep.symm.trans h)
  · obtain rfl := Host.Outcome.next.inj (hstep.symm.trans h)
    exact hs
  · obtain rfl := Host.Outcome.next.inj (hstep.symm.trans h)
    exact machineInv_applyHostOp (machineInv_setHostQueue hs rest) op

/-! ### The budget invariant -/

theorem budgetInv_raiseFatal {s : State} (hs : BudgetInv s) (kind : FaultKind) (addr : Nat) :
    BudgetInv (raiseFatal kind addr s) :=
  ⟨hs.supplied, fun h => by rcases h with h | h <;> cases h⟩

theorem budgetInv_setHostQueue {s : State} {op : HostOp} {rest : List HostOp} (hs : BudgetInv s)
    (hq : s.hostQueue = op :: rest) : BudgetInv (s.setHostQueue rest) :=
  ⟨fun budget hb => hs.supplied budget (hq ▸ List.mem_cons_of_mem op hb), hs.counted⟩

theorem budgetInv_hostExecute {s : State} (hs : BudgetInv s) {budget : Int}
    (hb : budgetHeld Config.budgetBits budget) : BudgetInv (hostExecute budget s) := by
  by_cases hl : s.ls = .halted
  · rw [hostExecute_of_halted budget hl]
    exact ⟨hs.supplied, fun _ => hb⟩
  · rwa [hostExecute_of_not_halted budget hl]

theorem budgetInv_hostLoad {s : State} (hs : BudgetInv s) (addr : Nat) (v : Byte) : BudgetInv (hostLoad addr v s) := by
  by_cases ha : addr < 65536
  · rw [hostLoad_of_lt v s ha]
    exact ⟨hs.supplied, hs.counted⟩
  · rwa [hostLoad_of_ge v s (Nat.not_lt.mp ha)]

/-- The budget an execute operation brings is the only one that has to fit. -/
theorem budgetInv_applyHostOp {s : State} (hs : BudgetInv s) {op : HostOp}
    (hop : ∀ budget, op = .execute budget → budgetHeld Config.budgetBits budget) : BudgetInv (applyHostOp op s) := by
  cases op with
  | reset => exact ⟨hs.supplied, fun _ => budgetHeld_small (cb := 0) (by decide) (by decide)⟩
  | load addr v => exact budgetInv_hostLoad hs addr v
  | execute budget => exact budgetInv_hostExecute hs (hop budget rfl)
  | step => exact budgetInv_hostExecute hs (budgetHeld_small (by decide) (by decide))
  | inspect name => exact hs

/-- An instruction starts with CB at least 1 and costs at most six, so CB stays at -5 or above (R63). -/
theorem budgetInv_instrStep {s t : State} (hs : BudgetInv s) (hr : s.ls = .running) (hcb : 0 < s.cb)
    (h : instrStep s = .next t) : BudgetInv t := by
  rcases instrStep_next_cases h with ⟨i, hran⟩ | rfl | rfl
  · have hcost := cycles_le_six i
    have hpaid := hran.cb
    exact ⟨hran.hostQueue ▸ hs.supplied, fun _ => budgetHeld_debit (hs.counted (.inr hr)) (by omega) (by omega)⟩
  · exact budgetInv_raiseFatal hs _ _
  · exact budgetInv_raiseFatal hs _ _

theorem budgetInv_step {s t : State} (hs : BudgetInv s) (h : step s = .next t) : BudgetInv t := by
  rcases step_cases s with ⟨hr, -, hstep⟩ | ⟨hr, hcb, hstep⟩ | ⟨-, -, hstep⟩ | ⟨-, op, rest, hq, hstep⟩
  · obtain rfl := Host.Outcome.next.inj (hstep.symm.trans h)
    exact ⟨hs.supplied, fun _ => hs.counted (.inr hr)⟩
  · exact budgetInv_instrStep hs hr hcb (hstep.symm.trans h)
  · obtain rfl := Host.Outcome.next.inj (hstep.symm.trans h)
    exact hs
  · obtain rfl := Host.Outcome.next.inj (hstep.symm.trans h)
    refine budgetInv_applyHostOp (budgetInv_setHostQueue hs hq) fun budget hop => hs.supplied budget ?_
    rw [hq, hop]
    exact List.mem_cons_self

/-! ### The obligations -/

/-- Settles O53: each kind of step keeps each invariant. -/
theorem machineInvariantKept : Obligations.MachineInvariantKept :=
  ⟨fun _ _ => machineInv_step, fun _ _ => budgetInv_step⟩

/-- Settles O8: the laws of a write, by induction on the cells. -/
theorem readAfterWrite : Obligations.ReadAfterWrite := fun m a v hm =>
  ⟨Memory.read_write_same hm a v, fun _ hb => Memory.read_write_other m v hb⟩

/-- Settles O48: what is not a JSR and runs whole leaves memory as it was. -/
theorem onlyJsrWritesMemory : Obligations.OnlyJsrWritesMemory := by
  intro i s t hw hexec hmem
  obtain ⟨u, hu, hran⟩ := exec_of_runsWhole hw
  obtain rfl := Host.Outcome.next.inj (hu.symm.trans hexec)
  by_contra hjsr
  exact hmem (hran.mem fun target hi => hjsr ⟨target, hi⟩)

/-- Settles O49: the two bytes at SP make p + 2, which does not wrap because p is below 0xFFFD. -/
theorem returnAddressIsLittleEndian : Obligations.ReturnAddressIsLittleEndian := by
  intro target s hm hw
  obtain ⟨hpc, hsp⟩ := runsWhole_jsr_iff.mp hw
  obtain ⟨t, hexec, -, htsp, hlo, hhi⟩ := exec_jsr_return_address target hm hw
  have hret : (s.pc + 2).toNat = s.pc.toNat + 2 := by bv_omega
  refine ⟨t, hexec, ?_, ?_⟩
  · rw [hlo, hhi, loByte_add_hiByte, hret]
  · rw [htsp, toNat_succ hsp]

/-- Settles O51: the next fetch begins at SP, where the return address stands. -/
theorem fetchSeesJsrWrites : Obligations.FetchSeesJsrWrites := by
  intro s hm hw
  obtain ⟨-, hsp⟩ := runsWhole_jsr_iff.mp hw
  obtain ⟨t, hexec, htpc, -, hlo, hhi⟩ := exec_jsr_return_address s.sp hm hw
  have hin : s.sp.toNat < Config.memSize := s.sp.isLt
  have hin' : s.sp.toNat + 1 < Config.memSize := Nat.succ_lt_succ hsp
  refine ⟨t, hexec, ?_⟩
  simp only [fetchWindow, htpc, Memory.bytesFrom, if_pos hin, if_pos hin', hlo, hhi, List.take_succ_cons, List.take_zero]
  rfl

/-- Settles O7: both primitives test the raw address first. -/
theorem accessPrimitivesCheckRange : Obligations.AccessPrimitivesCheckRange := fun _ v s =>
  ⟨fun h => ⟨memRead_of_lt s h, memWrite_of_lt v s h⟩, fun h => ⟨memRead_of_ge s h, memWrite_of_ge v s h⟩⟩

/-- Settles O26: in range a load is one write, which the accessor shows; out of range it is nothing; a run takes none. -/
theorem hostLoadRule : Obligations.HostLoadRule := by
  refine ⟨fun s addr v h => ⟨hostLoad_of_lt v s h, fun hm => ?_⟩,
    fun s addr v h => ⟨hostLoad_of_ge v s h, inspect_mem_of_ge s h⟩,
    fun s t addr v q hr hq hstep => (step_hostQueue_of_running hr hstep).trans hq⟩
  change inspect (.mem addr) (hostLoad addr v s) = _
  rw [hostLoad_of_lt v s h, inspect_mem_of_lt _ h, State.setMem_mem, Memory.read_write_same hm]

end Sys2Proof.Machine
end

section
/-! PROOFS. The encoding family of 30_encoding.md: decoding undoes encoding and encoding undoes decoding, the opcode
alone decides the length, and the map of the 256 opcode values is complete. -/

namespace Sys2Proof

/-! ### The decoder by the kind of handler -/

/-- What follows the opcode byte is read as its handler says; an unknown opcode reads nothing more. -/
theorem decode_cons_cases (op : Byte) (bytes : List Byte) :
    (op = 0xA9#8 ∧ decode (op :: bytes) = decodeByteOperand .ldaImm op bytes) ∨
    (op = 0xA5#8 ∧ decode (op :: bytes) = decodeByteOperand .ldaZp op bytes) ∨
    (op = 0xB5#8 ∧ decode (op :: bytes) = decodeByteOperand .ldaZpx op bytes) ∨
    (op = 0x20#8 ∧ decode (op :: bytes) = decodeWordOperand .jsr op bytes) ∨
    (op ≠ 0xA9#8 ∧ op ≠ 0xA5#8 ∧ op ≠ 0xB5#8 ∧ op ≠ 0x20#8 ∧
      ∃ i, i.isUnknown = true ∧ i.opcode = op ∧ decode (op :: bytes) = .ok i bytes) := by
  rw [decode]
  rcases handlerOf_cases op with
    ⟨hop, h⟩ | ⟨hop, h⟩ | ⟨hop, h⟩ | ⟨hop, h⟩ | ⟨hA9, hA5, hB5, h20, i, h, hi, hop⟩ <;> rw [h]
  · exact .inl ⟨hop, rfl⟩
  · exact .inr (.inl ⟨hop, rfl⟩)
  · exact .inr (.inr (.inl ⟨hop, rfl⟩))
  · exact .inr (.inr (.inr (.inl ⟨hop, rfl⟩)))
  · exact .inr (.inr (.inr (.inr ⟨hA9, hA5, hB5, h20, i, hi, hop, rfl⟩)))

/-! ### The operand formats -/

/-- What one operand byte decodes to has that opcode and that byte as its encoding. -/
theorem encode_of_decodeByteOperand {mk : Byte → Instr} {op : Byte} (hmk : ∀ v, encode (mk v) = [op, v])
    {bytes rest : List Byte} {i : Instr} (h : decodeByteOperand mk op bytes = .ok i rest) :
    op :: bytes = encode i ++ rest := by
  match bytes with
  | [] => cases h
  | v :: _ =>
    obtain ⟨rfl, rfl⟩ := Decoded.ok.inj h
    rw [hmk]
    rfl

/-- What two operand bytes decode to has that opcode and those bytes, low byte first, as its encoding. -/
theorem encode_of_decodeWordOperand {mk : Word → Instr} {op : Byte}
    (hmk : ∀ hi lo, encode (mk (wordOf hi lo)) = [op, lo, hi]) {bytes rest : List Byte} {i : Instr}
    (h : decodeWordOperand mk op bytes = .ok i rest) : op :: bytes = encode i ++ rest := by
  match bytes with
  | [] => cases h
  | [_] => cases h
  | lo :: hi :: _ =>
    obtain ⟨rfl, rfl⟩ := Decoded.ok.inj h
    rw [hmk]
    rfl

/-- Formats IMM8, ZP8 and ZPX8 take one byte, and are truncated without it. -/
theorem decodeByteOperand_by_length (mk : Byte → Instr) {op : Byte} (hmk : ∀ v, (mk v).opcode = op)
    (bytes : List Byte) :
    (1 ≤ bytes.length → ∃ i, i.opcode = op ∧ decodeByteOperand mk op bytes = .ok i (bytes.drop 1)) ∧
    (bytes.length < 1 → decodeByteOperand mk op bytes = .truncated op) := by
  match bytes with
  | [] => exact ⟨nofun, fun _ => rfl⟩
  | v :: _ => exact ⟨fun _ => ⟨mk v, hmk v, rfl⟩, by simp⟩

/-- Format ABS16 takes two bytes, and is truncated with fewer. -/
theorem decodeWordOperand_by_length (mk : Word → Instr) {op : Byte} (hmk : ∀ w, (mk w).opcode = op)
    (bytes : List Byte) :
    (2 ≤ bytes.length → ∃ i, i.opcode = op ∧ decodeWordOperand mk op bytes = .ok i (bytes.drop 2)) ∧
    (bytes.length < 2 → decodeWordOperand mk op bytes = .truncated op) := by
  match bytes with
  | [] => exact ⟨by simp, fun _ => rfl⟩
  | [_] => exact ⟨by simp, fun _ => rfl⟩
  | lo :: hi :: _ => exact ⟨fun _ => ⟨mk (wordOf hi lo), hmk _, rfl⟩, by simp⟩

/-! ### The encoder -/

theorem encode_jsr_wordOf (hi lo : Byte) : encode (.jsr (wordOf hi lo)) = [0x20#8, lo, hi] := by
  change [0x20#8, loByte (wordOf hi lo), hiByte (wordOf hi lo)] = _
  rw [loByte_wordOf, hiByte_wordOf]

theorem encode_unknown {i : Instr} (h : i.isUnknown = true) : encode i = [i.opcode] := by
  rw [encode, (Machine.unknown_shape h).2.2]

/-- Each unknown opcode stands in the map at its own value. -/
theorem handlerOf_opcode_of_isUnknown {i : Instr} (h : i.isUnknown = true) : handlerOf i.opcode = .unk i := by
  cases i with
  | ldaImm | ldaZp | ldaZpx | jsr => cases h
  | _ => rfl

theorem decode_encode_jsr (target : Word) (rest : List Byte) :
    decode (encode (.jsr target) ++ rest) = .ok (.jsr target) rest := by
  change Decoded.ok (.jsr (wordOf (hiByte target) (loByte target))) rest = _
  rw [wordOf_hiByte_loByte]

theorem decode_encode_unknown {i : Instr} (h : i.isUnknown = true) (rest : List Byte) :
    decode (encode i ++ rest) = .ok i rest := by
  rw [encode_unknown h, List.singleton_append, decode, handlerOf_opcode_of_isUnknown h]

/-! ### The obligations -/

/-- Settles O9: the load formats compute; a JSR target is its two bytes; an unknown opcode stands in its own place. -/
theorem decodeOfEncode : Obligations.DecodeOfEncode := by
  intro i rest _
  rcases Machine.instr_cases i with ⟨v, rfl⟩ | ⟨zp, rfl⟩ | ⟨zp, rfl⟩ | ⟨target, rfl⟩ | hi
  · rfl
  · rfl
  · rfl
  · exact decode_encode_jsr target rest
  · exact decode_encode_unknown hi rest

/-- Settles O10: the bytes each format accepts are those the encoder lays down. -/
theorem encodeOfDecode : Obligations.EncodeOfDecode := by
  intro bytes rest i h
  cases bytes with
  | nil => cases h
  | cons op bytes =>
    rcases decode_cons_cases op bytes with
      ⟨rfl, hd⟩ | ⟨rfl, hd⟩ | ⟨rfl, hd⟩ | ⟨rfl, hd⟩ | ⟨-, -, -, -, j, hj, rfl, hd⟩ <;> rw [hd] at h
    · exact encode_of_decodeByteOperand (fun _ => rfl) h
    · exact encode_of_decodeByteOperand (fun _ => rfl) h
    · exact encode_of_decodeByteOperand (fun _ => rfl) h
    · exact encode_of_decodeWordOperand encode_jsr_wordOf h
    · obtain ⟨rfl, rfl⟩ := Decoded.ok.inj h
      rw [encode_unknown hj]
      rfl

/-- Settles O11: the handler fixes the format, and the format the number of operand bytes. -/
theorem opcodeAloneDecidesLength : Obligations.OpcodeAloneDecidesLength := by
  intro op bytes
  rcases decode_cons_cases op bytes with
    ⟨rfl, hd⟩ | ⟨rfl, hd⟩ | ⟨rfl, hd⟩ | ⟨rfl, hd⟩ | ⟨hA9, hA5, hB5, h20, i, -, hop, hd⟩ <;> rw [hd]
  · exact decodeByteOperand_by_length .ldaImm (fun _ => rfl) bytes
  · exact decodeByteOperand_by_length .ldaZp (fun _ => rfl) bytes
  · exact decodeByteOperand_by_length .ldaZpx (fun _ => rfl) bytes
  · exact decodeWordOperand_by_length .jsr (fun _ => rfl) bytes
  · simp only [hA9, hA5, hB5, h20, or_self, if_false]
    exact ⟨fun _ => ⟨i, hop, rfl⟩, by simp⟩

/-- Settles O12: with two bytes after it each opcode value decodes by its own format. -/
theorem opcodeMapComplete : Obligations.OpcodeMapComplete := by
  intro op b1 b2 rest
  rcases decode_cons_cases op (b1 :: b2 :: rest) with
    ⟨rfl, hd⟩ | ⟨rfl, hd⟩ | ⟨rfl, hd⟩ | ⟨rfl, hd⟩ | ⟨hA9, hA5, hB5, h20, hi⟩
  · exact hd
  · exact hd
  · exact hd
  · exact hd
  · simpa only [hA9, hA5, hB5, h20, if_false] using hi

/-- Settles O13: each word is the encoding of its instruction. -/
theorem writtenOutWordsDecode : Obligations.WrittenOutWordsDecode :=
  ⟨decodeOfEncode (.ldaImm 0x84) [] rfl, decodeOfEncode (.ldaZp 0x10) [] rfl, decodeOfEncode (.ldaZpx 0xF0) [] rfl,
    decodeOfEncode (.jsr 0x5678) [] rfl, decodeOfEncode .unkFF [] rfl, decodeOfEncode .unkAD [] rfl⟩

end Sys2Proof
end

section
/-! PROOFS. The family of 40_fetch_dispatch_loop.md: the fetch unit and the operands it fetches, one transition of the
execution loop, execute and step, the end of every run, the bound on its overrun, and what an instruction costs and
emits. -/

namespace Sys2Proof.Machine

/-! ### The fetch unit (R54, R55) -/

/-- The last byte of memory is the only one that cannot be consumed. -/
theorem pc_lt_top_iff {s : State} : s.pc.toNat < 0xFFFF ↔ s.pc ≠ 0xFFFF#16 := by bv_omega

/-- Settles O14: the definition of the debit. -/
theorem debitIsExact : Obligations.DebitIsExact := fun _ _ => rfl

/-- Settles O15: a fetch below 0xFFFF reads, advances and debits; at 0xFFFF the advance is fatal. -/
theorem fetchByteRule : Obligations.FetchByteRule := fun _ =>
  ⟨fun h => fetchByte_of_lt (pc_lt_top_iff.mpr h), fun h => fetchByte_of_top fun hlt => pc_lt_top_iff.mp hlt h⟩

/-- Settles O16: below 0xFFFE both fetches go through; at 0xFFFE the second is fatal, at 0xFFFF the first. -/
theorem fetchWordRule : Obligations.FetchWordRule := fun _ =>
  ⟨fetchWord_of_lt, fun h => fetchWord_of_top (by rcases h with h | h <;> rw [h] <;> decide)⟩

/-! ### The bytes the decoder is given and the bytes the fetch unit fetches (R56, R61) -/

theorem fetchWindow_of_lt {s : State} (h : s.pc.toNat < 0xFFFE) :
    fetchWindow s =
      [Memory.read s.mem s.pc.toNat, Memory.read s.mem (s.pc.toNat + 1), Memory.read s.mem (s.pc.toNat + 2)] :=
  Memory.bytesFrom_three s.mem (by omega)

/-- At 0xFFFE two bytes are left. -/
theorem fetchWindow_of_FFFE {s : State} (h : s.pc = 0xFFFE#16) :
    fetchWindow s = [Memory.read s.mem 0xFFFE, Memory.read s.mem 0xFFFF] := by
  rw [fetchWindow, h]
  rfl

/-- At 0xFFFF one byte is left. -/
theorem fetchWindow_of_FFFF {s : State} (h : s.pc = 0xFFFF#16) : fetchWindow s = [Memory.read s.mem 0xFFFF] := by
  rw [fetchWindow, h]
  rfl

/-- An instruction of one operand byte: the two fetches give the opcode and the operand of its encoding. -/
theorem fetchByte_twice_of_decode {s : State} {i : Instr} {rest : List Byte} {op v : Byte} (henc : encode i = [op, v])
    (hd : decode (fetchWindow s) = .ok i rest) (hpc : s.pc.toNat < 0xFFFE) :
    ∃ op' t u, fetchByte s = .done op' t ∧ op' = op ∧ fetchByte t = .done v u := by
  have hbytes := encodeOfDecode _ _ _ hd
  rw [fetchWindow_of_lt hpc, henc] at hbytes
  obtain ⟨hop, htail⟩ := List.cons.inj hbytes
  obtain ⟨hv, -⟩ := List.cons.inj htail
  have hnext : ((s.setPc (s.pc + 1)).debit 1).pc.toNat = s.pc.toNat + 1 := toNat_succ (by omega)
  have hoperand := fetchByte_of_lt (pc_lt_after_fetch hpc)
  rw [hnext, State.debit_mem, State.setPc_mem, hv] at hoperand
  exact ⟨_, _, _, fetchByte_of_lt (by omega), hop, hoperand⟩

/-- A JSR: the fetches give its opcode and its target, low byte first. -/
theorem fetchByte_fetchWord_of_decode_jsr {s : State} {target : Word} {rest : List Byte}
    (hd : decode (fetchWindow s) = .ok (.jsr target) rest) (hpc : s.pc.toNat < 0xFFFD) :
    ∃ op t u, fetchByte s = .done op t ∧ op = 0x20#8 ∧ fetchWord t = .done target u := by
  have hbytes := encodeOfDecode _ _ _ hd
  rw [fetchWindow_of_lt (by omega)] at hbytes
  obtain ⟨hop, htail⟩ := List.cons.inj hbytes
  obtain ⟨hlo, htail⟩ := List.cons.inj htail
  obtain ⟨hhi, -⟩ := List.cons.inj htail
  have hnext : ((s.setPc (s.pc + 1)).debit 1).pc.toNat = s.pc.toNat + 1 := toNat_succ (by omega)
  have htarget := fetchWord_of_lt (s := (s.setPc (s.pc + 1)).debit 1) (by omega)
  rw [hnext, State.debit_mem, State.setPc_mem, hlo, hhi, wordOf_hiByte_loByte] at htarget
  exact ⟨_, _, _, fetchByte_of_lt (by omega), hop, htarget⟩

/-- Settles O17: what the decoder accepts is the encoding of what it answers, and the fetch unit reads those bytes. -/
theorem fetchedOperandIsDecodedOperand : Obligations.FetchedOperandIsDecodedOperand := fun _ _ =>
  ⟨fun _ => fetchByte_twice_of_decode rfl, fun _ => fetchByte_twice_of_decode rfl,
    fun _ => fetchByte_twice_of_decode rfl, fun _ => fetchByte_fetchWord_of_decode_jsr⟩

/-! ### One transition of the execution loop (R59, R61, R62) -/

/-- The boundary that ends a run. -/
theorem step_of_running_spent {s : State} (hr : s.ls = .running) (hcb : s.cb ≤ 0) :
    step s = .next (s.setLs .halted) := by
  rw [step, transition, hr]
  exact if_pos hcb

theorem step_of_running_budget {s : State} (hr : s.ls = .running) (hcb : 0 < s.cb) : step s = instrStep s := by
  rw [step, transition, hr]
  exact if_neg (Int.not_le.mpr hcb)

theorem instrStep_of_decode {s : State} {i : Instr} {rest : List Byte} (hd : decode (fetchWindow s) = .ok i rest) :
    instrStep s = exec i s := by
  rw [instrStep, hd]

theorem instrStep_of_truncated {s : State} {op : Byte} (hd : decode (fetchWindow s) = .truncated op) :
    instrStep s = .next (raiseFatal .fetchAdvance 65536 s) := by
  rw [instrStep, hd]
  rfl

/-- One instruction answers a next state, whether it runs whole or faults. -/
theorem instrStep_next (s : State) : ∃ t, instrStep s = .next t := by
  rcases instrStep_cases s with ⟨i, rest, -, hstep⟩ | hfatal
  · by_cases hw : RunsWhole i s
    · obtain ⟨t, hexec, -⟩ := exec_of_runsWhole hw
      exact ⟨t, hstep.trans hexec⟩
    · rcases exec_of_not_runsWhole hw with hexec | hexec
      · exact ⟨_, hstep.trans hexec⟩
      · exact ⟨_, hstep.trans hexec⟩
  · exact ⟨_, hfatal⟩

/-- An instruction of the loop that leaves the machine not FAULTED has run whole. -/
theorem ranWhole_of_instrStep {s t : State} (h : instrStep s = .next t) (hnf : t.ls ≠ .faulted) :
    ∃ i, RanWhole i s t := by
  rcases instrStep_next_cases h with hran | rfl | rfl
  · exact hran
  · exact absurd rfl hnf
  · exact absurd rfl hnf

/-- Settles O18: with budget left the step is the instruction the window decodes to; the window ends with memory. -/
theorem stepRunsDecodedInstruction : Obligations.StepRunsDecodedInstruction :=
  ⟨fun _ _ _ hr hcb _ hd => (step_of_running_budget hr hcb).trans (instrStep_of_decode hd),
    fun _ => fetchWindow_of_lt, fun _ => fetchWindow_of_FFFE, fun _ => fetchWindow_of_FFFF⟩

/-- Settles O19: a truncated decode raises FETCH_ADVANCE. -/
theorem stepPastEndOfMemoryFaults : Obligations.StepPastEndOfMemoryFaults := fun _ _ hr hcb hd =>
  ⟨_, (step_of_running_budget hr hcb).trans (instrStep_of_truncated hd), rfl, rfl⟩

/-- Settles O20: the two branches of the boundary test. -/
theorem budgetTestedAtBoundary : Obligations.BudgetTestedAtBoundary := fun _ hr =>
  ⟨step_of_running_spent hr, step_of_running_budget hr⟩

/-- Settles O21: the end of a run, an instruction, idling and a host operation each answer a next state. -/
theorem everyStepAnswersNext : Obligations.EveryStepAnswersNext := by
  intro s
  rcases step_cases s with ⟨-, -, hstep⟩ | ⟨-, -, hstep⟩ | ⟨-, -, hstep⟩ | ⟨-, op, rest, -, hstep⟩
  · exact ⟨_, hstep⟩
  · obtain ⟨t, hnext⟩ := instrStep_next s
    exact ⟨t, hstep.trans hnext⟩
  · exact ⟨_, hstep⟩
  · exact ⟨_, hstep⟩

/-! ### Execute and step (R60, R65, R69) -/

/-- Settles O23: execute from HALTED is two updates, and a whole run goes on from there. -/
theorem executeKeepsState : Obligations.ExecuteKeepsState := by
  intro s budget h
  have hstart : hostExecute budget s = { s with cb := budget, ls := .running } := hostExecute_of_halted budget h
  exact ⟨hstart, hstart ▸ executeRun_of_halted budget h⟩

/-- Settles O24: none of the three has an effect unless LS = HALTED. -/
theorem executeAndStepRefused : Obligations.ExecuteAndStepRefused := fun _ h =>
  ⟨fun budget => ⟨hostExecute_of_not_halted budget h, executeRun_of_not_halted budget h⟩,
    hostExecute_of_not_halted 1 h⟩

/-! ### The loop (R62) -/

theorem runLoop_of_not_running {s : State} (h : s.ls ≠ .running) (fuel : Nat) : runLoop fuel s = .next s := by
  cases fuel with
  | zero => rfl
  | succ fuel =>
    rw [runLoop]
    cases hl : s.ls with
    | running => exact absurd hl h
    | unreset | halted | faulted => rfl

theorem runLoop_of_faulted {s : State} (h : s.ls = .faulted) (fuel : Nat) : runLoop fuel s = .next s :=
  runLoop_of_not_running (by rw [h]; decide) fuel

/-- While RUNNING the loop takes one step and goes on from there. -/
theorem runLoop_succ_of_step {s t : State} (hr : s.ls = .running) (hstep : step s = .next t) (fuel : Nat) :
    runLoop (fuel + 1) s = runLoop fuel t := by
  have htransition : transition s = .next t := hstep
  rw [runLoop, hr, htransition]

theorem runLoop_succ_of_spent {s : State} (hr : s.ls = .running) (hcb : s.cb ≤ 0) (fuel : Nat) :
    runLoop (fuel + 1) s = .next (s.setLs .halted) := by
  rw [runLoop_succ_of_step hr (step_of_running_spent hr hcb) fuel]
  exact runLoop_of_not_running (by rw [State.setLs_ls]; decide) fuel

/-- What every step of a run keeps, the loop keeps. -/
theorem runLoop_keeps {P : State → Prop} (hkeep : ∀ s t, s.ls = .running → P s → step s = .next t → P t)
    (fuel : Nat) :
    ∀ {s t : State}, P s → runLoop fuel s = .next t → P t := by
  induction fuel with
  | zero =>
    intro s t hs h
    exact Host.Outcome.next.inj h ▸ hs
  | succ fuel ih =>
    intro s t hs h
    by_cases hr : s.ls = .running
    · obtain ⟨u, hstep⟩ := everyStepAnswersNext s
      rw [runLoop_succ_of_step hr hstep] at h
      exact ih (hkeep s u hr hs hstep) h
    · rw [runLoop_of_not_running hr] at h
      exact Host.Outcome.next.inj h ▸ hs

/-! ### Every run ends (R70) -/

/-- Every instruction debits something. -/
theorem cycles_pos (i : Instr) : 0 < cycles i := by
  rcases instr_cases i with ⟨v, rfl⟩ | ⟨zp, rfl⟩ | ⟨zp, rfl⟩ | ⟨target, rfl⟩ | hi
  · exact (by decide : 0 < 2)
  · exact (by decide : 0 < 3)
  · exact (by decide : 0 < 4)
  · exact (by decide : 0 < 6)
  · obtain ⟨-, hcost, -⟩ := unknown_shape hi
    omega

/-- How a run ends: HALTED with the budget used up, or FAULTED. -/
def RunEnded (t : State) : Prop := (t.ls = .halted ∧ t.cb ≤ 0) ∨ t.ls = .faulted

/-- One boundary for each cycle of the budget and one more is enough, since every instruction debits at least 1. -/
theorem runLoop_ends (fuel : Nat) : ∀ {s : State}, s.ls = .running → s.cb ≤ fuel →
    ∃ t, runLoop (fuel + 1) s = .next t ∧ RunEnded t := by
  induction fuel with
  | zero =>
    intro s hr hcb
    exact ⟨_, runLoop_succ_of_spent hr hcb 0, .inl ⟨rfl, hcb⟩⟩
  | succ fuel ih =>
    intro s hr hcb
    by_cases hspent : s.cb ≤ 0
    · exact ⟨_, runLoop_succ_of_spent hr hspent _, .inl ⟨rfl, hspent⟩⟩
    · obtain ⟨u, hnext⟩ := instrStep_next s
      have hstep := (step_of_running_budget hr (Int.not_le.mp hspent)).trans hnext
      rw [runLoop_succ_of_step hr hstep]
      by_cases hfault : u.ls = .faulted
      · exact ⟨u, runLoop_of_faulted hfault _, .inr hfault⟩
      · obtain ⟨i, hran⟩ := ranWhole_of_instrStep hnext hfault
        have hpaid := hran.cb
        have hcost := cycles_pos i
        exact ih (hran.ls.trans hr) (by omega)

/-- A budget of 0 or less is spent at the first boundary (R60). -/
theorem executeRun_of_nonpos {budget : Int} {s : State} (h : s.ls = .halted) (hb : budget ≤ 0) :
    executeRun budget s = .next { s with cb := budget } := by
  rw [executeRun_of_halted budget h, hostExecute_of_halted budget h, runLoop_succ_of_spent rfl hb]
  simp only [State.setCb, State.setLs, ← h]

theorem executeRun_ends {budget : Int} {s : State} (h : s.ls = .halted) :
    ∃ t, executeRun budget s = .next t ∧ RunEnded t := by
  rw [executeRun_of_halted budget h, hostExecute_of_halted budget h]
  exact runLoop_ends budget.toNat rfl (Int.self_le_toNat budget)

/-- Settles O28: the loop has a boundary for every cycle of the budget, and one to end it. -/
theorem everyRunEnds : Obligations.EveryRunEnds := fun _ _ h =>
  ⟨executeRun_ends h, executeRun_of_nonpos h⟩

/-! ### The overrun (R63) -/

/-- R63 at a boundary: unless the run has faulted, CB is at least -5. -/
def OverrunInv (s : State) : Prop := s.ls ≠ .faulted → -5 ≤ s.cb

/-- An instruction starts with CB at least 1 and costs at most 6. -/
theorem overrunInv_of_instrStep {s t : State} (hcb : 0 < s.cb) (h : instrStep s = .next t) : OverrunInv t := by
  intro hnf
  obtain ⟨i, hran⟩ := ranWhole_of_instrStep h hnf
  have hpaid := hran.cb
  have hcost := cycles_le_six i
  omega

theorem overrunInv_of_step {s t : State} (hr : s.ls = .running) (hs : OverrunInv s) (h : step s = .next t) :
    OverrunInv t := by
  by_cases hcb : s.cb ≤ 0
  · obtain rfl := Host.Outcome.next.inj ((step_of_running_spent hr hcb).symm.trans h)
    exact fun _ => hs (by rw [hr]; decide)
  · have hpos := Int.not_le.mp hcb
    exact overrunInv_of_instrStep hpos ((step_of_running_budget hr hpos).symm.trans h)

theorem overrunInv_of_runLoop {budget : Int} {fuel : Nat} {s t : State} (hs : s.ls = .halted) (hb : 0 < budget)
    (h : runLoop fuel (hostExecute budget s) = .next t) : OverrunInv t := by
  refine runLoop_keeps (fun _ _ => overrunInv_of_step) fuel (fun _ => ?_) h
  rw [hostExecute_of_halted budget hs, State.setLs_cb, State.setCb_cb]
  omega

/-- A run that ends HALTED has used up its budget, and overrun it by at most 5. -/
theorem completesAt_cb {budget : Int} {s t : State} (hs : s.ls = .halted) (h : CompletesAt budget s t) :
    (0 < budget → -5 ≤ t.cb ∧ t.cb ≤ 0) ∧ (budget ≤ 0 → t.cb = budget) := by
  obtain ⟨hrun, hhalted⟩ := h
  have hnf : t.ls ≠ .faulted := by rw [hhalted]; decide
  refine ⟨fun hb => ⟨?_, ?_⟩, fun hb => ?_⟩
  · exact overrunInv_of_runLoop hs hb ((executeRun_of_halted budget hs).symm.trans hrun) hnf
  · obtain ⟨u, hu, hended⟩ := executeRun_ends (budget := budget) hs
    obtain rfl := Host.Outcome.next.inj (hu.symm.trans hrun)
    rcases hended with ⟨-, hcb⟩ | hfault
    · exact hcb
    · exact absurd hfault hnf
  · obtain rfl := Host.Outcome.next.inj ((executeRun_of_nonpos hs hb).symm.trans hrun)
    rfl

/-- Settles O29: the loop keeps CB at -5 or above, and every run ends with its budget used up. -/
theorem overrunBound : Obligations.OverrunBound := by
  refine ⟨fun _ _ _ _ hs hb => overrunInv_of_runLoop hs hb, fun _ _ _ => completesAt_cb,
    fun s hr hcb => step_of_running_spent hr (by omega), fun i s hw => ?_⟩
  obtain ⟨t, hexec, hran⟩ := exec_of_runsWhole hw
  exact ⟨cycles_le_six i, t, hexec, hran.cb⟩

/-! ### A single step -/

/-- A run of budget 1 is one instruction and the boundary after it. -/
theorem executeRun_one {s t : State} (h : s.ls = .halted)
    (hnext : instrStep { s with cb := 1, ls := .running } = .next t) :
    executeRun 1 s = .next (if t.ls = .faulted then t else { t with ls := .halted }) := by
  have hstep : step { s with cb := 1, ls := .running } = .next t :=
    (step_of_running_budget rfl Int.one_pos).trans hnext
  have hrun : executeRun 1 s = runLoop 1 t :=
    (executeKeepsState s 1 h).2.trans (runLoop_succ_of_step rfl hstep 1)
  rw [hrun]
  split
  · next hfault => exact runLoop_of_faulted hfault 1
  · next hnf =>
    obtain ⟨i, hran⟩ := ranWhole_of_instrStep hnext hnf
    have hpaid : t.cb = 1 - (cycles i : Int) := hran.cb
    have hcost := cycles_pos i
    exact runLoop_succ_of_spent hran.ls (by omega) 0

/-- Settles O25: one instruction leaves at most 0 of a budget of 1, so the next boundary ends the run. -/
theorem singleStepIsExecuteOne : Obligations.SingleStepIsExecuteOne := by
  refine ⟨fun _ => rfl, fun s h => ?_⟩
  obtain ⟨t, hnext⟩ := instrStep_next { s with cb := 1, ls := .running }
  refine ⟨t, hnext, executeRun_one h hnext, fun hnf => ?_, fun i rest hd hw => ?_⟩
  · obtain ⟨i, hran⟩ := ranWhole_of_instrStep hnext hnf
    have hpaid : t.cb = 1 - (cycles i : Int) := hran.cb
    have hcost := cycles_pos i
    have hbound := cycles_le_six i
    omega
  · have hw' : RunsWhole i { s with cb := 1, ls := .running } := hw
    have hd' : decode (fetchWindow { s with cb := 1, ls := .running }) = .ok i rest := hd
    obtain ⟨u, hexec, hran⟩ := exec_of_runsWhole hw'
    obtain rfl := Host.Outcome.next.inj (hexec.symm.trans ((instrStep_of_decode hd').symm.trans hnext))
    exact hran.cb

/-! ### What an instruction costs and emits (R53, R57, R66) -/

theorem microOps_unknown {i : Instr} (h : i.isUnknown = true) : microOps i = [.fetch] := by
  cases i with
  | ldaImm | ldaZp | ldaZpx | jsr => cases h
  | _ => rfl

/-- Settles O42: the cycles of an instruction are the length of its sequence. -/
theorem costIsNumberOfMicroOps : Obligations.CostIsNumberOfMicroOps := by
  refine ⟨fun _ => rfl, fun _ => rfl, fun _ => rfl, fun _ => rfl, fun _ => microOps_unknown, fun i s hw => ?_⟩
  obtain ⟨t, hexec, hran⟩ := exec_of_runsWhole hw
  exact ⟨t, hexec, hran.cb⟩

/-- Settles O43: of the states the five kinds of instruction leave, only that of an unknown opcode has an event more. -/
theorem unknownOpcodeEvent : Obligations.UnknownOpcodeEvent := by
  intro i s hw
  rcases instr_cases i with ⟨v, rfl⟩ | ⟨zp, rfl⟩ | ⟨zp, rfl⟩ | ⟨target, rfl⟩ | hi
  · exact ⟨_, exec_ldaImm_of_lt v (runsWhole_ldaImm_iff.mp hw), rfl⟩
  · exact ⟨_, exec_ldaZp_of_lt zp (runsWhole_ldaZp_iff.mp hw), rfl⟩
  · exact ⟨_, (exec_ldaZpx zp s).trans (loadZpx_of_lt false zp (runsWhole_ldaZpx_iff.mp hw)), rfl⟩
  · obtain ⟨hpc, hsp⟩ := runsWhole_jsr_iff.mp hw
    exact ⟨_, exec_jsr_of_lt target hpc hsp, rfl⟩
  · exact ⟨_, exec_unknown_of_lt hi ((runsWhole_unknown_iff hi).mp hw), (if_pos hi).symm⟩

end Sys2Proof.Machine
end

section
/-! PROOFS. The family of 41_addressing_alu.md: the address adder, the flag generator, what the three loads leave and
when they fault, and the five flags no instruction writes. -/

namespace Sys2Proof.Machine

/-! ### The address adder (R74 to R77) -/

@[simp] theorem agu_false (zp x : Byte) : agu false zp x = zp.toNat + x.toNat := rfl

@[simp] theorem agu_true (zp x : Byte) : agu true zp x = (zp.toNat + x.toNat) % 256 := rfl

/-- Settles O34: the exact sum of two bytes, and its remainder by 256, which is the sum itself just when below 256. -/
theorem addressAdderRule : Obligations.AddressAdderRule := by
  refine ⟨rfl, fun zp x => ⟨agu_false zp x, agu_true zp x, Nat.le_of_lt_succ (agu_lt false zp x),
    Nat.le_of_lt_succ (Nat.mod_lt _ (by decide)), ?_⟩⟩
  rw [agu_false, agu_true]
  omega

/-! ### The flag generator (R78) -/

/-- Bit 7 of zero is 0, so a value is never both zero and negative. -/
theorem Flags.nz_not_both (f : Flags) (v : Byte) : ¬ ((f.nz v).z = true ∧ (f.nz v).n = true) := by
  rintro ⟨hz, hn⟩
  rw [Flags.nz_z, beq_iff_eq] at hz
  rw [Flags.nz_n, hz] at hn
  exact absurd hn (by decide)

/-! ### The loads as one family (R71, R78) -/

/-- The instruction is LDA #, LDA zp or LDA zp,X. -/
def IsLoad (i : Instr) : Prop := ∃ b, i = .ldaImm b ∨ i = .ldaZp b ∨ i = .ldaZpx b

theorem runsWhole_load_iff {i : Instr} (hi : IsLoad i) {s : State} : RunsWhole i s ↔ s.pc.toNat < 0xFFFE := by
  obtain ⟨b, rfl | rfl | rfl⟩ := hi
  · exact runsWhole_ldaImm_iff
  · exact runsWhole_ldaZp_iff
  · exact runsWhole_ldaZpx_iff

/-- A load that runs whole moves PC by two, pays its cycles and ends with the write of A, Z and N. -/
theorem exec_load_of_runsWhole {i : Instr} {s : State} (hi : IsLoad i) (hw : RunsWhole i s) :
    ∃ v, exec i s = .next (loadA v ((s.setPc (s.pc + 2)).debit (cycles i))) := by
  have hpc := (runsWhole_load_iff hi).mp hw
  obtain ⟨b, rfl | rfl | rfl⟩ := hi
  · exact ⟨_, exec_ldaImm_of_lt b hpc⟩
  · exact ⟨_, exec_ldaZp_of_lt b hpc⟩
  · exact ⟨_, (exec_ldaZpx b s).trans (loadZpx_of_lt false b hpc)⟩

/-- Any other load is stopped by one of its two fetches. -/
theorem exec_load_of_not_runsWhole {i : Instr} {s : State} (hi : IsLoad i) (hw : ¬ RunsWhole i s) :
    exec i s = .next (raiseFatal .fetchAdvance 65536 s) := by
  have hpc := mt (runsWhole_load_iff hi).mpr hw
  obtain ⟨b, rfl | rfl | rfl⟩ := hi
  · exact exec_ldaImm_of_top b hpc
  · exact exec_ldaZp_of_top b hpc
  · exact (exec_ldaZpx b s).trans (loadZpx_of_top false b hpc)

/-- Settles O32: SetNZ is `Flags.nz`, and a load that runs whole ends with it on the value of A. -/
theorem setNZRule : Obligations.SetNZRule := by
  refine ⟨fun v s => ⟨rfl, Flags.nz_not_both s.flags v⟩, fun i s hi hw => ?_⟩
  obtain ⟨v, hexec⟩ := exec_load_of_runsWhole hi hw
  exact ⟨_, hexec, rfl⟩

/-- Settles O35: both addresses are below 65536, so only the fetches of a load are left to fault. -/
theorem effectiveAddressInRange : Obligations.EffectiveAddressInRange := by
  refine ⟨fun wrap zp x s => ?_, fun i s t hi hnf hexec hf => ?_⟩
  · have hzp : zp.toNat ≤ 0xFF := Nat.le_of_lt_succ zp.isLt
    have hagu : agu wrap zp x ≤ 0x1FE := Nat.le_of_lt_succ (agu_lt wrap zp x)
    exact ⟨hzp, hagu, ⟨_, _, readEa_of_lt s (by omega)⟩, ⟨_, _, readEa_of_lt s (by omega)⟩⟩
  · by_cases hw : RunsWhole i s
    · obtain ⟨u, hu, hran⟩ := exec_of_runsWhole hw
      obtain rfl := Host.Outcome.next.inj (hu.symm.trans hexec)
      exact absurd (hran.ls.symm.trans hf) hnf
    · obtain rfl := Host.Outcome.next.inj ((exec_load_of_not_runsWhole hi hw).symm.trans hexec)
      exact ⟨Nat.not_lt.mp (mt (runsWhole_load_iff hi).mpr hw), raiseFatal_fr s _ _⟩

/-- Settles O44: the fields that writing PC, CB, A, Z and N does not reach. -/
theorem loadFrame : Obligations.LoadFrame := by
  intro i s t hi hw hexec
  obtain ⟨v, hu⟩ := exec_load_of_runsWhole hi hw
  obtain rfl := Host.Outcome.next.inj (hu.symm.trans hexec)
  exact ⟨rfl, rfl, rfl, rfl, rfl, rfl, rfl, rfl, fun _ => rfl, rfl, rfl, rfl, rfl, rfl⟩

/-! ### The flags no instruction writes (R79) -/

/-- The flags with Z and N cleared: what is left is C, I, D, B and V. -/
def Flags.inert (f : Flags) : Flags := { f with z := false, n := false }

theorem Flags.inert_eq_iff {f g : Flags} :
    f.inert = g.inert ↔ f.c = g.c ∧ f.i = g.i ∧ f.d = g.d ∧ f.b = g.b ∧ f.v = g.v := by
  simp [Flags.inert]

@[simp] theorem Flags.inert_nz (f : Flags) (v : Byte) : (f.nz v).inert = f.inert := rfl

/-- JSR and the unknown opcodes write no flag. -/
theorem exec_flags_of_jsr_or_unknown {i : Instr} {s : State} (hi : (∃ target, i = .jsr target) ∨ i.isUnknown = true)
    (hw : RunsWhole i s) : ∃ t, exec i s = .next t ∧ t.flags = s.flags := by
  rcases hi with ⟨target, rfl⟩ | hi
  · obtain ⟨hpc, hsp⟩ := runsWhole_jsr_iff.mp hw
    exact ⟨_, exec_jsr_of_lt target hpc hsp, rfl⟩
  · exact ⟨_, exec_unknown_of_lt hi ((runsWhole_unknown_iff hi).mp hw), rfl⟩

theorem isLoad_or_jsr_or_unknown (i : Instr) : IsLoad i ∨ (∃ target, i = .jsr target) ∨ i.isUnknown = true := by
  rcases instr_cases i with ⟨b, h⟩ | ⟨b, h⟩ | ⟨b, h⟩ | h
  · exact .inl ⟨b, .inl h⟩
  · exact .inl ⟨b, .inr (.inl h)⟩
  · exact .inl ⟨b, .inr (.inr h)⟩
  · exact .inr h

/-- A load writes Z and N, any other instruction no flag. -/
theorem exec_inert_of_runsWhole {i : Instr} {s : State} (hw : RunsWhole i s) :
    ∃ t, exec i s = .next t ∧ t.flags.inert = s.flags.inert := by
  rcases isLoad_or_jsr_or_unknown i with hload | hother
  · obtain ⟨v, hexec⟩ := exec_load_of_runsWhole hload hw
    exact ⟨_, hexec, Flags.inert_nz s.flags v⟩
  · obtain ⟨t, hexec, hflags⟩ := exec_flags_of_jsr_or_unknown hother hw
    exact ⟨t, hexec, congrArg Flags.inert hflags⟩

/-- An instruction of the loop that leaves the machine not FAULTED is one that runs whole. -/
theorem exec_of_instrStep {s t : State} (h : instrStep s = .next t) (hnf : t.ls ≠ .faulted) :
    ∃ i, RunsWhole i s ∧ exec i s = .next t := by
  have not_fatal (kind : FaultKind) : instrStep s ≠ .next (raiseFatal kind 65536 s) := fun hfatal =>
    hnf (Host.Outcome.next.inj (h.symm.trans hfatal) ▸ raiseFatal_ls s kind 65536)
  rcases instrStep_cases s with ⟨i, rest, -, hstep⟩ | hfatal
  · refine ⟨i, ?_, hstep.symm.trans h⟩
    by_contra hw
    rcases exec_of_not_runsWhole hw with hexec | hexec
    · exact not_fatal _ (hstep.trans hexec)
    · exact not_fatal _ (hstep.trans hexec)
  · exact absurd hfatal (not_fatal _)

theorem hostExecute_flags (budget : Int) (s : State) : (hostExecute budget s).flags = s.flags := by
  by_cases h : s.ls = .halted
  · rw [hostExecute_of_halted budget h, State.setLs_flags, State.setCb_flags]
  · rw [hostExecute_of_not_halted budget h]

theorem hostLoad_flags (addr : Nat) (v : Byte) (s : State) : (hostLoad addr v s).flags = s.flags := by
  by_cases h : addr < 65536
  · rw [hostLoad_of_lt v s h, State.setMem_flags]
  · rw [hostLoad_of_ge v s (Nat.not_lt.mp h)]

/-- Of the host's operations only a reset writes flags. -/
theorem applyHostOp_flags (op : HostOp) (s : State) :
    (applyHostOp op s).flags = s.flags ∨ (applyHostOp op s).flags = State.reset.flags := by
  cases op with
  | reset => exact .inr rfl
  | load addr v => exact .inl (hostLoad_flags addr v s)
  | execute budget => exact .inl (hostExecute_flags budget s)
  | step => exact .inl (hostExecute_flags 1 s)
  | inspect name => exact .inl rfl

/-- A step that does not end FAULTED keeps the five flags or, as a reset, clears them. -/
theorem step_inert {s t : State} (hnf : t.ls ≠ .faulted) (h : step s = .next t) :
    t.flags.inert = s.flags.inert ∨ t.flags.inert = State.reset.flags.inert := by
  rcases step_cases s with ⟨-, -, hstep⟩ | ⟨-, -, hstep⟩ | ⟨-, -, hstep⟩ | ⟨-, op, rest, -, hstep⟩
  · obtain rfl := Host.Outcome.next.inj (hstep.symm.trans h)
    exact .inl rfl
  · obtain ⟨i, hw, hexec⟩ := exec_of_instrStep (hstep.symm.trans h) hnf
    obtain ⟨u, hu, hinert⟩ := exec_inert_of_runsWhole hw
    obtain rfl := Host.Outcome.next.inj (hu.symm.trans hexec)
    exact .inl hinert
  · obtain rfl := Host.Outcome.next.inj (hstep.symm.trans h)
    exact .inl rfl
  · obtain rfl := Host.Outcome.next.inj (hstep.symm.trans h)
    exact (applyHostOp_flags op (s.setHostQueue rest)).imp (congrArg Flags.inert) (congrArg Flags.inert)

theorem ls_ne_faulted_of_live {s : State} (h : Live s) : s.ls ≠ .faulted := by
  rcases h with h | h <;> rw [h] <;> decide

/-- Settles O33: an instruction keeps the five flags, and a step keeps them or resets them to the 0 they had. -/
theorem inertFlags : Obligations.InertFlags := by
  refine ⟨fun i s hw => ?_, fun s t _ hlive hstep hc hi hd hb hv => ?_⟩
  · obtain ⟨t, hexec, hinert⟩ := exec_inert_of_runsWhole hw
    obtain ⟨hc, hi, hd, hb, hv⟩ := Flags.inert_eq_iff.mp hinert
    refine ⟨t, hexec, hc, hi, hd, hb, hv, fun hother => ?_⟩
    obtain ⟨u, hu, hflags⟩ := exec_flags_of_jsr_or_unknown hother hw
    obtain rfl := Host.Outcome.next.inj (hu.symm.trans hexec)
    exact hflags
  · have hclear : s.flags.inert = State.reset.flags.inert := Flags.inert_eq_iff.mpr ⟨hc, hi, hd, hb, hv⟩
    exact Flags.inert_eq_iff.mp ((step_inert (ls_ne_faulted_of_live hlive) hstep).elim (·.trans hclear) id)

end Sys2Proof.Machine
end

section
/-! PROOFS. The family of 42_load.md: the encoding, the result and the fault of each of the three loads. -/

namespace Sys2Proof.Machine

/-- The two starts from which a two-byte instruction would consume the byte at 0xFFFF (R54, R93). -/
theorem not_pc_lt_of_FFFE_or_FFFF {s : State} (h : s.pc = 0xFFFE#16 ∨ s.pc = 0xFFFF#16) : ¬ s.pc.toNat < 0xFFFE := by
  bv_omega

/-- A fetch fault ends FAULTED with FR = (FETCH_ADVANCE, 0x10000), the raw address one past memory (R92, R94). -/
theorem faulted_of_eq_raiseFatal {o : Outcome} {s : State} (h : o = .next (raiseFatal .fetchAdvance 65536 s)) :
    ∃ t, o = .next t ∧ t.ls = .faulted ∧ t.fr = ⟨.fetchAdvance, 0x10000⟩ :=
  ⟨_, h, raiseFatal_ls s _ _, raiseFatal_fr s _ _⟩

/-- Settles O36: below 0xFFFE both fetches succeed and the operand goes to A; from there on one of them faults. -/
theorem ldaImmediateResult : Obligations.LdaImmediateResult := fun v _ =>
  ⟨rfl, exec_ldaImm_of_lt v, fun h => faulted_of_eq_raiseFatal (exec_ldaImm_of_top v (not_pc_lt_of_FFFE_or_FFFF h))⟩

/-- Settles O37: as the immediate load, with one more cycle for the read of the zero page, which cannot fault. -/
theorem ldaZeroPageResult : Obligations.LdaZeroPageResult := fun zp _ =>
  ⟨rfl, exec_ldaZp_of_lt zp, fun h => faulted_of_eq_raiseFatal (exec_ldaZp_of_top zp (not_pc_lt_of_FFFE_or_FFFF h))⟩

/-- Settles O38: the read is at the address adder's sum, below 65536 under either setting, so it cannot fault either. -/
theorem ldaZeroPageXResult : Obligations.LdaZeroPageXResult := fun wrap zp s =>
  ⟨rfl, exec_ldaZpx zp s, loadZpx_of_lt wrap zp,
    fun h => faulted_of_eq_raiseFatal (loadZpx_of_top wrap zp (not_pc_lt_of_FFFE_or_FFFF h))⟩

end Sys2Proof.Machine
end

section
/-! PROOFS. The family of 43_subroutine.md: the result, the faults and the frame of JSR, and the stack that nested calls
leave. -/

namespace Sys2Proof.Machine

/-! ### One call (R87) -/

/-- Settles O39: with room for its bytes and its return address the call goes through; the third fetch comes before the
writes, so FETCH_ADVANCE is the fault whatever SP is, and WRITE the one left where PC is low enough. -/
theorem jsrResult : Obligations.JsrResult := by
  intro target s
  refine ⟨rfl, fun hpc hsp => ?_, fun hpc => ?_, fun hpc hsp => ?_⟩
  · exact exec_jsr_of_lt target hpc (by bv_omega)
  · exact faulted_of_eq_raiseFatal (exec_jsr_of_pc_top target (by bv_omega))
  · exact ⟨_, exec_jsr_of_sp_top target hpc (by bv_omega), raiseFatal_ls s _ _, raiseFatal_fr s _ _⟩

/-- Settles O45: the fields that writing PC, SP, CB and the two bytes at SP does not reach. -/
theorem jsrFrame : Obligations.JsrFrame := by
  intro target s t hw hexec
  obtain ⟨hpc, hsp⟩ := runsWhole_jsr_iff.mp hw
  obtain rfl := Host.Outcome.next.inj ((exec_jsr_of_lt target hpc hsp).symm.trans hexec)
  refine ⟨rfl, rfl, rfl, rfl, fun addr hlo hhi => ?_, rfl, rfl, rfl, rfl, rfl⟩
  exact (Memory.read_write_other _ _ hhi).trans (Memory.read_write_other _ _ hlo)

/-! ### Nested calls (R88) -/

/-- What the stack layout needs of a call to `target` from `s`: in the state `u` it leaves, memory is in its canonical
form, PC is at the target, SP is one higher, the return address stands at the old SP, and the bytes below are as they
were. -/
structure Called (target : Word) (s u : State) : Prop where
  wf : Memory.wf u.mem = true
  pc : u.pc = target
  sp : u.sp.toNat = s.sp.toNat + 1
  lo : Memory.read u.mem s.sp.toNat = loByte (s.pc + 2)
  hi : Memory.read u.mem (s.sp.toNat + 1) = hiByte (s.pc + 2)
  below : ∀ addr, addr < s.sp.toNat → Memory.read u.mem addr = Memory.read s.mem addr

theorem called_of_exec_jsr {target : Word} {s u : State} (hm : Memory.wf s.mem = true)
    (hw : RunsWhole (.jsr target) s) (hexec : exec (.jsr target) s = .next u) : Called target s u := by
  obtain ⟨-, hsp⟩ := runsWhole_jsr_iff.mp hw
  obtain ⟨v, hv, hvpc, hvsp, hvlo, hvhi⟩ := exec_jsr_return_address target hm hw
  obtain rfl := Host.Outcome.next.inj (hv.symm.trans hexec)
  obtain ⟨w, hran, hwran⟩ := exec_of_runsWhole hw
  obtain rfl := Host.Outcome.next.inj (hran.symm.trans hexec)
  obtain ⟨-, -, -, -, hmem, -⟩ := jsrFrame target s w hw hexec
  exact ⟨hwran.wf hm, hvpc, by rw [hvsp, toNat_succ hsp], hvlo, hvhi,
    fun addr h => hmem addr (by omega) (by omega)⟩

/-- A chain of calls is its first call and a chain from the state that leaves. -/
theorem called_of_jsrChain_cons {target : Word} {rest : List Word} {s t : State} (hm : Memory.wf s.mem = true)
    (h : JsrChain (target :: rest) s t) : ∃ u, Called target s u ∧ JsrChain rest u t := by
  obtain ⟨hw, u, hexec, hrest⟩ := h
  exact ⟨u, called_of_exec_jsr hm hw hexec, hrest⟩

theorem jsrChain_sp {targets : List Word} {s t : State} (hm : Memory.wf s.mem = true) (h : JsrChain targets s t) :
    t.sp.toNat = s.sp.toNat + targets.length := by
  induction targets generalizing s with
  | nil => obtain rfl : t = s := h; rfl
  | cons target rest ih =>
    obtain ⟨u, hu, hrest⟩ := called_of_jsrChain_cons hm h
    rw [ih hu.wf hrest, hu.sp, List.length_cons]
    omega

/-- Calls push upward: the bytes below SP are never written. -/
theorem jsrChain_read_below {targets : List Word} {s t : State} (hm : Memory.wf s.mem = true)
    (h : JsrChain targets s t) {addr : Nat} (ha : addr < s.sp.toNat) :
    Memory.read t.mem addr = Memory.read s.mem addr := by
  induction targets generalizing s with
  | nil => obtain rfl : t = s := h; rfl
  | cons target rest ih =>
    obtain ⟨u, hu, hrest⟩ := called_of_jsrChain_cons hm h
    have hau : addr < u.sp.toNat := by rw [hu.sp]; omega
    exact (ih hu.wf hrest hau).trans (hu.below addr ha)

/-- The low byte of a call's return address stays: the next call writes from one above it. -/
theorem jsrChain_read_lo {targets : List Word} {s t : State} (hm : Memory.wf s.mem = true) (h : JsrChain targets s t)
    {k : Nat} (hk : k < targets.length) :
    Memory.read t.mem (s.sp.toNat + k) = loByte ((s.pc :: targets).getD k 0 + 2) := by
  induction targets generalizing s k with
  | nil => cases hk
  | cons target rest ih =>
    obtain ⟨u, hu, hrest⟩ := called_of_jsrChain_cons hm h
    cases k with
    | zero => exact (jsrChain_read_below hu.wf hrest (by rw [hu.sp]; exact Nat.lt_succ_self _)).trans hu.lo
    | succ k =>
      have hlater := ih hu.wf hrest (Nat.lt_of_succ_lt_succ hk)
      rwa [hu.sp, hu.pc, Nat.add_right_comm] at hlater

/-- The high byte of the last return address is the one no later call writes over. -/
theorem jsrChain_read_hi {targets : List Word} {s t : State} (hm : Memory.wf s.mem = true) (h : JsrChain targets s t)
    (hne : 0 < targets.length) :
    Memory.read t.mem (s.sp.toNat + targets.length) =
      hiByte ((s.pc :: targets).getD (targets.length - 1) 0 + 2) := by
  induction targets generalizing s with
  | nil => cases hne
  | cons target rest ih =>
    obtain ⟨u, hu, hrest⟩ := called_of_jsrChain_cons hm h
    cases rest with
    | nil => obtain rfl : t = u := hrest; exact hu.hi
    | cons next rest =>
      have hlater := ih hu.wf hrest (Nat.succ_pos _)
      rwa [hu.sp, hu.pc, Nat.add_right_comm] at hlater

/-- Calls below 0xFFFD run whole as long as SP has room for them. -/
theorem exists_jsrChain {targets : List Word} {s : State} (hpc : s.pc.toNat < 0xFFFD)
    (htargets : ∀ w ∈ targets, w.toNat < 0xFFFD) (hroom : s.sp.toNat + targets.length ≤ 0xFFFF) :
    ∃ t, JsrChain targets s t := by
  induction targets generalizing s with
  | nil => exact ⟨s, rfl⟩
  | cons target rest ih =>
    rw [List.length_cons] at hroom
    obtain ⟨htarget, hlater⟩ := List.forall_mem_cons.mp htargets
    have hsp : s.sp.toNat < 0xFFFF := by omega
    obtain ⟨u, hexec, hupc, husp⟩ :
        ∃ u, exec (.jsr target) s = .next u ∧ u.pc = target ∧ u.sp.toNat = s.sp.toNat + 1 :=
      ⟨_, exec_jsr_of_lt target hpc hsp, rfl, toNat_succ hsp⟩
    obtain ⟨t, ht⟩ := ih (hupc ▸ htarget) hlater (by omega)
    exact ⟨t, runsWhole_jsr_iff.mpr ⟨hpc, hsp⟩, u, hexec, ht⟩

/-- Settles O50: each call overwrites the high byte of the one before and leaves its low byte. -/
theorem nestedCallsStackLayout : Obligations.NestedCallsStackLayout :=
  ⟨fun _ _ _ hm h => ⟨fun _ hk => jsrChain_read_lo hm h hk, jsrChain_read_hi hm h, jsrChain_sp hm h⟩,
    fun _ _ hpc htargets hroom => exists_jsrChain hpc htargets hroom⟩

end Sys2Proof.Machine
end

section
/-! PROOFS. The family of 44_unknown_opcode.md: the result, the fault and the frame of the 252 unknown opcodes. -/

namespace Sys2Proof.Machine

/-- The opcode map has a defined instruction, not an unknown one, at each of the four values. -/
theorem opcode_ne_defined_of_isUnknown {i : Instr} (hi : i.isUnknown = true) :
    i.opcode ≠ 0x20#8 ∧ i.opcode ≠ 0xA5#8 ∧ i.opcode ≠ 0xA9#8 ∧ i.opcode ≠ 0xB5#8 := by
  have hunk : handlerOf i.opcode = .unk i := handlerOf_opcode_of_isUnknown hi
  rcases handlerOf_cases i.opcode with ⟨-, h⟩ | ⟨-, h⟩ | ⟨-, h⟩ | ⟨-, h⟩ | ⟨hA9, hA5, hB5, h20, -⟩
  · cases hunk.symm.trans h
  · cases hunk.symm.trans h
  · cases hunk.symm.trans h
  · cases hunk.symm.trans h
  · exact ⟨h20, hA5, hA9, hB5⟩

/-- Settles O40: the one fetch is all that can fail, and it fails at 0xFFFF alone. -/
theorem unknownOpcodeResult : Obligations.UnknownOpcodeResult := by
  intro i s hi
  obtain ⟨h20, hA5, hA9, hB5⟩ := opcode_ne_defined_of_isUnknown hi
  refine ⟨encode_unknown hi, h20, hA5, hA9, hB5, fun hpc => ?_, fun hpc => ?_⟩
  · exact exec_unknown_of_lt hi (pc_lt_top_iff.mpr hpc)
  · exact faulted_of_eq_raiseFatal (exec_unknown_of_top hi fun hlt => pc_lt_top_iff.mp hlt hpc)

/-- Settles O46: the fields that moving PC, paying CB and recording the event do not reach. -/
theorem unknownOpcodeFrame : Obligations.UnknownOpcodeFrame := by
  intro i s t hi hw hexec
  have hpc : s.pc.toNat < 0xFFFF := (runsWhole_unknown_iff hi).mp hw
  obtain rfl := Host.Outcome.next.inj ((exec_unknown_of_lt hi hpc).symm.trans hexec)
  exact ⟨rfl, rfl, rfl, rfl, rfl, fun _ => rfl, rfl, rfl, rfl, rfl⟩

end Sys2Proof.Machine
end

section
/-! PROOFS. The family of 60_exceptions.md: what a FatalPrecondition ends, and which instructions raise which fault. -/

namespace Sys2Proof.Machine

/-- The length the opcode decides is that of the whole encoding (30_encoding.md R46). -/
theorem encode_length (i : Instr) : (encode i).length = lengthOf i.opcode := by
  rcases instr_cases i with ⟨v, rfl⟩ | ⟨zp, rfl⟩ | ⟨zp, rfl⟩ | ⟨target, rfl⟩ | hi
  · rfl
  · rfl
  · rfl
  · rfl
  · rw [encode_unknown hi, (unknown_shape hi).1, List.length_singleton]

/-- Whatever the instruction, consuming the byte at 0xFFFF is fatal, and comes before anything else can be. -/
theorem exec_of_fetch_top {i : Instr} {s : State} (h : 0x10000 ≤ s.pc.toNat + lengthOf i.opcode) :
    exec i s = .next (raiseFatal .fetchAdvance 65536 s) := by
  have hw : ¬ RunsWhole i s := fun ⟨hlt, _⟩ => Nat.not_lt.mpr h hlt
  rcases isLoad_or_jsr_or_unknown i with hload | ⟨target, rfl⟩ | hi
  · exact exec_load_of_not_runsWhole hload hw
  · have hpc : 0x10000 ≤ s.pc.toNat + 3 := h
    exact exec_jsr_of_pc_top target (by omega)
  · exact exec_unknown_of_top hi (mt (runsWhole_unknown_iff hi).mpr hw)

/-- An instruction all of whose bytes can be fetched fails to run whole only as a JSR with no room on the stack. -/
theorem exec_of_stack_top {i : Instr} {s : State} (hfetch : s.pc.toNat + lengthOf i.opcode < 0x10000)
    (hw : ¬ RunsWhole i s) : exec i s = .next (raiseFatal .write 65536 s) := by
  obtain ⟨target, rfl, hsp⟩ : ∃ target, i = .jsr target ∧ s.sp = 0xFFFF#16 := by
    by_contra hnone
    exact hw ⟨hfetch, fun target hi hsp => hnone ⟨target, hi, hsp⟩⟩
  have hpc : s.pc.toNat + 3 < 0x10000 := hfetch
  exact exec_jsr_of_sp_top target (by omega) (by rw [hsp]; decide)

/-- Settles O31: an instruction cannot be fetched, or cannot push, or runs whole. -/
theorem whichInstructionsFault : Obligations.WhichInstructionsFault := by
  intro i s
  rw [encode_length]
  by_cases hfetch : s.pc.toNat + lengthOf i.opcode < 0x10000
  · by_cases hw : RunsWhole i s
    · obtain ⟨t, hexec, hran⟩ := exec_of_runsWhole hw
      obtain ⟨-, hroom⟩ := hw
      exact ⟨t, hexec, fun h => absurd hfetch (Nat.not_lt.mpr h), fun _ ⟨target, hi⟩ hsp => absurd hsp (hroom target hi),
        fun _ => ⟨hran.ls, hran.fr⟩⟩
    · exact ⟨_, exec_of_stack_top hfetch hw, fun h => absurd hfetch (Nat.not_lt.mpr h),
        fun _ _ _ => ⟨raiseFatal_ls s _ _, raiseFatal_fr s _ _⟩, fun h => absurd h hw⟩
  · exact ⟨_, exec_of_fetch_top (Nat.not_lt.mp hfetch), fun _ => ⟨raiseFatal_ls s _ _, raiseFatal_fr s _ _⟩,
      fun h => absurd h hfetch, fun ⟨hlt, _⟩ => absurd hlt hfetch⟩

/-- Settles O30: `Micro.bind` drops what follows a fatal micro-op, and the loop goes on only from RUNNING. -/
theorem fatalPreconditionEndsRun : Obligations.FatalPreconditionEndsRun := by
  refine ⟨fun kind addr later s => ⟨raiseFatal kind addr s, ?_, raiseFatal_ls s kind addr, raiseFatal_fr s kind addr⟩,
    fun fuel s h => runLoop_of_faulted h fuel⟩
  rw [Micro.bind_fatal, finish_fatal]

end Sys2Proof.Machine
end

section
/-! PROOFS. The family of 70_reset_and_hazards.md: the reset and the state before it, what no step but a reset changes,
the fixed cost of each instruction, and zero-page-X while X is 0. -/

namespace Sys2Proof.Machine

/-! ### What a host operation other than reset can reach (R68, R113) -/

theorem hostExecute_reach (budget : Int) (s : State) :
    ∃ m n l, hostExecute budget s = { s with mem := m, cb := n, ls := l } ∧ (l = s.ls ∨ s.ls = .halted) := by
  by_cases h : s.ls = .halted
  · exact ⟨s.mem, budget, .running, hostExecute_of_halted budget h, .inr h⟩
  · exact ⟨s.mem, s.cb, s.ls, hostExecute_of_not_halted budget h, .inl rfl⟩

/-- Of the host's operations only a reset reaches anything but memory, CB and LS, and only it moves LS from a state that
is not HALTED. -/
theorem applyHostOp_reach {op : HostOp} (hop : op ≠ .reset) (s : State) :
    ∃ m n l, applyHostOp op s = { s with mem := m, cb := n, ls := l } ∧ (l = s.ls ∨ s.ls = .halted) := by
  cases op with
  | reset => exact absurd rfl hop
  | load addr v =>
    by_cases ha : addr < 65536
    · exact ⟨_, s.cb, s.ls, hostLoad_of_lt v s ha, .inl rfl⟩
    · exact ⟨s.mem, s.cb, s.ls, hostLoad_of_ge v s (Nat.not_lt.mp ha), .inl rfl⟩
  | execute budget => exact hostExecute_reach budget s
  | step => exact hostExecute_reach 1 s
  | inspect name => exact ⟨s.mem, s.cb, s.ls, rfl, .inl rfl⟩

theorem ls_ne_halted_of_unreset_or_faulted {s : State} (h : s.ls = .unreset ∨ s.ls = .faulted) : s.ls ≠ .halted := by
  rcases h with h | h <;> rw [h] <;> decide

theorem ls_ne_running_of_unreset_or_faulted {s : State} (h : s.ls = .unreset ∨ s.ls = .faulted) :
    s.ls ≠ .running := by
  rcases h with h | h <;> rw [h] <;> decide

/-- R113: reset is the host's one way out of UNRESET and of FAULTED. -/
theorem op_eq_reset_of_ls_changed {s : State} {op : HostOp} (hs : s.ls = .unreset ∨ s.ls = .faulted)
    (hchanged : (applyHostOp op s).ls ≠ s.ls) : op = .reset := by
  by_contra hop
  obtain ⟨m, n, l, happly, hl⟩ := applyHostOp_reach hop s
  rw [happly] at hchanged
  exact hl.elim hchanged (ls_ne_halted_of_unreset_or_faulted hs)

/-- From UNRESET or FAULTED a step that moves LS has taken a pending reset. -/
theorem step_out_of_unreset_or_faulted {s t : State} (hs : s.ls = .unreset ∨ s.ls = .faulted) (h : step s = .next t)
    (hchanged : t.ls ≠ s.ls) : s.hostQueue.head? = some .reset ∧ t.ls = .halted := by
  have hnr := ls_ne_running_of_unreset_or_faulted hs
  rcases step_cases s with ⟨hr, -, -⟩ | ⟨hr, -, -⟩ | ⟨-, -, hstep⟩ | ⟨-, op, rest, hq, hstep⟩
  · exact absurd hr hnr
  · exact absurd hr hnr
  · obtain rfl := Host.Outcome.next.inj (hstep.symm.trans h)
    exact absurd rfl hchanged
  · obtain rfl := Host.Outcome.next.inj (hstep.symm.trans h)
    obtain rfl := op_eq_reset_of_ls_changed (s := s.setHostQueue rest) hs hchanged
    exact ⟨by rw [hq, List.head?_cons], rfl⟩

/-- A run goes on, ends HALTED or ends FAULTED. -/
theorem step_ls_ne_unreset_of_running {s t : State} (hr : s.ls = .running) (h : step s = .next t) :
    t.ls ≠ .unreset := by
  by_cases hcb : s.cb ≤ 0
  · obtain rfl := Host.Outcome.next.inj ((step_of_running_spent hr hcb).symm.trans h)
    exact nofun
  · have hinstr := (step_of_running_budget hr (Int.not_le.mp hcb)).symm.trans h
    rcases instrStep_next_cases hinstr with ⟨i, hran⟩ | rfl | rfl
    · rw [hran.ls, hr]
      decide
    · exact nofun
    · exact nofun

/-! ### What no step but a reset changes (R117) -/

/-- What every instruction and every host operation but a reset has in common: X, Y and the five flags of R79 are as
before, and SP is as before or, without wrapping, one higher. -/
structure KeepsSinceReset (s t : State) : Prop where
  x : t.x = s.x
  y : t.y = s.y
  flags : t.flags.inert = s.flags.inert
  sp : t.sp = s.sp ∨ t.sp.toNat = s.sp.toNat + 1

/-- A JSR that runs whole raises SP by one; no other instruction writes it (10_state.md R12). -/
theorem exec_sp_of_runsWhole {i : Instr} {s t : State} (hw : RunsWhole i s) (hexec : exec i s = .next t) :
    t.sp = s.sp ∨ t.sp.toNat = s.sp.toNat + 1 := by
  rcases isLoad_or_jsr_or_unknown i with hload | ⟨target, rfl⟩ | hi
  · obtain ⟨hsp, -⟩ := loadFrame i s t hload hw hexec
    exact .inl hsp
  · obtain ⟨hpc, hsp⟩ := runsWhole_jsr_iff.mp hw
    obtain rfl := Host.Outcome.next.inj ((exec_jsr_of_lt target hpc hsp).symm.trans hexec)
    exact .inr (toNat_succ hsp)
  · obtain ⟨hsp, -⟩ := unknownOpcodeFrame i s t hi hw hexec
    exact .inl hsp

theorem keepsSinceReset_of_exec {i : Instr} {s t : State} (hw : RunsWhole i s) (hexec : exec i s = .next t) :
    KeepsSinceReset s t := by
  obtain ⟨u, hu, hx, hy⟩ := noInstructionWritesIndexRegisters i s hw
  obtain rfl := Host.Outcome.next.inj (hu.symm.trans hexec)
  obtain ⟨v, hv, hflags⟩ := exec_inert_of_runsWhole hw
  obtain rfl := Host.Outcome.next.inj (hv.symm.trans hexec)
  exact ⟨hx, hy, hflags, exec_sp_of_runsWhole hw hexec⟩

/-- A step that leaves the machine in use has served a reset, or was in use before and kept what R117 lists. -/
theorem step_reset_or_keeps {s t : State} (h : step s = .next t) (ht : Live t) :
    (s.ls ≠ .running ∧ s.hostQueue.head? = some .reset ∧ ∃ u, t = hostReset u) ∨ (Live s ∧ KeepsSinceReset s t) := by
  rcases step_cases s with ⟨hr, -, hstep⟩ | ⟨hr, -, hstep⟩ | ⟨-, -, hstep⟩ | ⟨hr, op, rest, hq, hstep⟩
  · obtain rfl := Host.Outcome.next.inj (hstep.symm.trans h)
    exact .inr ⟨.inr hr, rfl, rfl, rfl, .inl rfl⟩
  · obtain ⟨i, hw, hexec⟩ := exec_of_instrStep (hstep.symm.trans h) (ls_ne_faulted_of_live ht)
    exact .inr ⟨.inr hr, keepsSinceReset_of_exec hw hexec⟩
  · obtain rfl := Host.Outcome.next.inj (hstep.symm.trans h)
    exact .inr ⟨ht, rfl, rfl, rfl, .inl rfl⟩
  · obtain rfl := Host.Outcome.next.inj (hstep.symm.trans h)
    by_cases hop : op = .reset
    · subst hop
      exact .inl ⟨hr, by rw [hq, List.head?_cons], _, rfl⟩
    · obtain ⟨m, n, l, happly, hl⟩ := applyHostOp_reach hop (s.setHostQueue rest)
      rw [happly] at ht ⊢
      refine .inr ⟨?_, rfl, rfl, rfl, .inl rfl⟩
      rcases hl with rfl | hhalted
      · exact ht
      · exact .inl hhalted

theorem sinceResetInv_hostReset (s : State) : SinceResetInv (hostReset s) := fun _ =>
  ⟨rfl, rfl, rfl, rfl, rfl, rfl, rfl, le_refl 0x0100⟩

theorem sinceResetInv_of_keeps {s t : State} (hlive : Live s) (hs : SinceResetInv s) (hkeeps : KeepsSinceReset s t) :
    SinceResetInv t := by
  intro _
  obtain ⟨hx, hy, hc, hi, hd, hb, hv, hsp⟩ := hs hlive
  obtain ⟨kc, ki, kd, kb, kv⟩ := Flags.inert_eq_iff.mp hkeeps.flags
  refine ⟨hkeeps.x.trans hx, hkeeps.y.trans hy, kc.trans hc, ki.trans hi, kd.trans hd, kb.trans hb, kv.trans hv, ?_⟩
  rcases hkeeps.sp with h | h <;> rw [h] <;> omega

/-! ### The state before the first reset (R114) -/

theorem State.onceReset_of_unreset {s : State} (h : s.ls = .unreset) (v : InspectValue) : s.onceReset v = none := by
  rw [State.onceReset, h]

/-- LS and memory are all that can be inspected before the first reset. -/
theorem inspect_of_unreset {s : State} (h : s.ls = .unreset) {name : InspectName} (hls : name ≠ .ls)
    (hmem : ∀ addr, name ≠ .mem addr) : inspect name s = none := by
  cases name with
  | ls => exact absurd rfl hls
  | mem addr => exact absurd rfl (hmem addr)
  | _ => exact State.onceReset_of_unreset h _

theorem not_live_powerOn : ¬ Live State.powerOn := by
  rintro (h | h) <;> cases h

/-! ### Zero-page-X while X is 0 (R117) -/

/-- With X = 0 the effective address is the operand, under either setting (41_addressing_alu.md R75). -/
theorem agu_zero (wrap : Bool) (zp : Byte) : agu wrap zp 0 = zp.toNat := by
  cases wrap with
  | false => rfl
  | true => exact Nat.mod_eq_of_lt zp.isLt

/-! ### Cleared memory with two bytes loaded at 0xFFFC (R110) -/

/-- What memory holds after the host, on a reset machine, has loaded these two bytes where a 6502 has its vector. -/
def vectorMemory (b0 b1 : Byte) : List Host.Cell := Memory.write (Memory.write [] 0xFFFC b0) 0xFFFD b1

theorem bytesFrom_vectorMemory (b0 b1 : Byte) : Memory.bytesFrom (vectorMemory b0 b1) 0xFFFC 3 = [b0, b1, 0] := by
  have hwf : Memory.wf (Memory.write [] 0xFFFC b0) = true := Memory.wf_write reset_mem_wf (by decide) b0
  have h0 : Memory.read (vectorMemory b0 b1) 0xFFFC = b0 :=
    (Memory.read_write_other _ b1 (by decide)).trans (Memory.read_write_same reset_mem_wf 0xFFFC b0)
  have h1 : Memory.read (vectorMemory b0 b1) 0xFFFD = b1 := Memory.read_write_same hwf 0xFFFD b1
  have h2 : Memory.read (vectorMemory b0 b1) 0xFFFE = 0 :=
    (Memory.read_write_other _ b1 (by decide)).trans (Memory.read_write_other [] b0 (by decide))
  rw [Memory.bytesFrom_three _ (by decide), h0, h1, h2]

/-! ### The obligations -/

/-- Settles O55: a step that ends in use is a reset, which establishes the invariant, or keeps all it speaks of but for
raising SP. -/
theorem sinceResetInvariantKept : Obligations.SinceResetInvariantKept := by
  intro s t hs hstep ht
  rcases step_reset_or_keeps hstep ht with ⟨-, -, u, rfl⟩ | ⟨hlive, hkeeps⟩
  · exact sinceResetInv_hostReset u ht
  · exact sinceResetInv_of_keeps hlive hs hkeeps ht

/-- Settles O4: only a reset moves LS from UNRESET or FAULTED, and no step of a run leads to UNRESET. -/
theorem resetAcceptedAndOnlyWayOut : Obligations.ResetAcceptedAndOnlyWayOut :=
  ⟨fun _ _ => ⟨rfl, rfl⟩, fun _ _ => op_eq_reset_of_ls_changed, fun _ _ => step_out_of_unreset_or_faulted,
    fun _ _ hr hstep => ⟨step_hostQueue_of_running hr hstep, step_ls_ne_unreset_of_running hr hstep⟩⟩

/-- Settles O41: the cycles of each kind of instruction, as `RanWhole` debits them. -/
theorem cycleCosts : Obligations.CycleCosts := by
  intro i s hw
  obtain ⟨t, hexec, hran⟩ := exec_of_runsWhole hw
  refine ⟨t, hexec, ?_, ?_, ?_, ?_, fun hi => ?_⟩
  · rintro ⟨v, rfl⟩
    exact hran.cb
  · rintro ⟨zp, rfl⟩
    exact hran.cb
  · rintro ⟨zp, rfl⟩
    exact hran.cb
  · rintro ⟨target, rfl⟩
    exact hran.cb
  · obtain ⟨-, hcost, -⟩ := unknown_shape hi
    rw [hran.cb, hcost]
    rfl

/-- Settles O52: both loads read the byte at the operand; the index addition is the cycle between them. -/
theorem zeroPageXWithXZero : Obligations.ZeroPageXWithXZero := by
  intro zp s hx hpc
  have hea (wrap : Bool) : agu wrap zp s.x = zp.toNat := by rw [hx, agu_zero]
  have hload (wrap : Bool) := loadZpx_of_lt wrap zp hpc
  simp only [hea] at hload
  have hcb : s.cb - 3 - 1 = s.cb - 4 := Int.sub_sub s.cb 3 1
  refine ⟨_, exec_ldaZp_of_lt zp hpc, ?_, (hload true).trans (hload false).symm⟩
  rw [exec_ldaZpx, hload, hcb]

/-- Settles O57: a step between states in use is a reset, served while HALTED, or keeps SP or raises it by one. -/
theorem stackPointerNeverDecreases : Obligations.StackPointerNeverDecreases := by
  intro s t hs ht hnotReset hstep
  rcases step_reset_or_keeps hstep ht with ⟨hnr, hhead, -⟩ | ⟨-, hkeeps⟩
  · exact absurd ⟨hs.resolve_right hnr, hhead⟩ hnotReset
  · exact hkeeps.sp

/-- Settles O2: the values `State.reset` is written with. -/
theorem resetStateValues : Obligations.ResetStateValues :=
  ⟨rfl, rfl, rfl, rfl, rfl, rfl, Memory.read_nil, rfl, rfl, rfl⟩

/-- Settles O1: a host reset takes every field of the machine from `State.reset`. -/
theorem hostResetSetsAllState : Obligations.HostResetSetsAllState := fun _ _ => resetStateValues

/-- Settles O3: what a reset sets it takes from `State.reset`, and it keeps the model's own fields. -/
theorem resetIdempotent : Obligations.ResetIdempotent := ⟨fun _ => rfl, fun _ _ => ⟨rfl, rfl⟩⟩

/-- Settles O5: none of the accessors named is that of memory or LS, and execute and step are refused unless HALTED. -/
theorem powerOnHoldsNoRegisterValue : Obligations.PowerOnHoldsNoRegisterValue := by
  refine ⟨rfl, fun addr => inspect_mem_of_lt State.powerOn, fun s hs => ?_⟩
  obtain ⟨hexecute, hstep⟩ := executeAndStepRefused s (ls_ne_halted_of_unreset_or_faulted (.inl hs))
  refine ⟨fun name hname => inspect_of_unreset hs ?_ ?_, fun budget => (hexecute budget).1, hstep⟩
  · rintro rfl
    simp at hname
  · rintro addr rfl
    simp at hname

/-- Settles O6: from HALTED the loads and execute set memory, CB and LS, and the window reads the loaded bytes back. -/
theorem resetVectorIsNotRead : Obligations.ResetVectorIsNotRead := by
  intro b0 b1 budget s
  have hrun : hostExecute budget (hostLoad 0xFFFD b1 (hostLoad 0xFFFC b0 (hostReset s))) =
      (((hostReset s).setMem (vectorMemory b0 b1)).setCb budget).setLs .running := by
    rw [hostLoad_of_lt b0 _ (by decide), hostLoad_of_lt b1 _ (by decide)]
    exact hostExecute_of_halted budget rfl
  rw [hrun]
  exact ⟨rfl, rfl, rfl, bytesFrom_vectorMemory b0 b1, fun hb => step_of_running_budget rfl hb⟩

/-- Settles O54: memory is empty, CB is 0 and nothing is pending at reset; at power-on the machine is not in use. -/
theorem machineInvariantAtReset : Obligations.MachineInvariantAtReset :=
  ⟨⟨⟨reset_mem_wf, fun _ => le_refl 0, fun _ => rfl, nofun⟩,
    ⟨powerOn_mem_wf, nofun, fun h => absurd h not_live_powerOn, nofun⟩⟩,
    ⟨nofun, fun _ => budgetHeld_small (cb := 0) (by decide) (by decide)⟩,
    ⟨nofun, fun h => absurd h not_live_powerOn⟩⟩

/-- Settles O56: State.reset is what a reset leaves, and State.powerOn is not in use. -/
theorem sinceResetInvariantAtReset : Obligations.SinceResetInvariantAtReset :=
  ⟨sinceResetInv_hostReset State.reset, fun h => absurd h not_live_powerOn⟩

end Sys2Proof.Machine
end

section
/-! PROOFS. The host's moves of 40_fetch_dispatch_loop.md R68: served or idling while no run is in progress, waiting while
one is. -/

namespace Sys2Proof.Machine

/-! ### The step of a machine that is not RUNNING (R59, R68) -/

theorem step_of_not_running_idle {s : State} (hnr : s.ls ≠ .running) (hq : s.hostQueue = []) : step s = .next s := by
  rcases step_cases s with ⟨hr, -, -⟩ | ⟨hr, -, -⟩ | ⟨-, -, hstep⟩ | ⟨-, op, rest, hpending, -⟩
  · exact absurd hr hnr
  · exact absurd hr hnr
  · exact hstep
  · cases hpending.symm.trans hq

theorem step_of_not_running_pending {s : State} {op : HostOp} {rest : List HostOp} (hnr : s.ls ≠ .running)
    (hq : s.hostQueue = op :: rest) : step s = .next (applyHostOp op (s.setHostQueue rest)) := by
  rcases step_cases s with ⟨hr, -, -⟩ | ⟨hr, -, -⟩ | ⟨-, hempty, -⟩ | ⟨-, op', rest', hpending, hstep⟩
  · exact absurd hr hnr
  · exact absurd hr hnr
  · cases hempty.symm.trans hq
  · obtain ⟨rfl, rfl⟩ := List.cons.inj (hpending.symm.trans hq)
    exact hstep

/-! ### The obligations -/

/-- Settles O27: the end of a run sets LS alone, and an instruction keeps the pending operations whether it runs whole or
faults. -/
theorem hostCannotActDuringRun : Obligations.HostCannotActDuringRun := fun _ _ => step_hostQueue_of_running

/-- Settles O22: by whether the queue of a machine that is not RUNNING is empty. -/
theorem stepServesHostWhenNotRunning : Obligations.StepServesHostWhenNotRunning := fun _ hnr =>
  ⟨step_of_not_running_idle hnr, fun _ _ => step_of_not_running_pending hnr⟩

end Sys2Proof.Machine
end
